-- ==== Sys2Proof/Word.lean ====
section
/-! DEFINITION. The two word sizes of the machine: the 8-bit byte of the registers and of memory
(10_state.md R10, 20_memory.md R40) and the 16-bit word of addresses, PC, SP and register pairs
(10_state.md R12, R13, R14). -/

namespace Sys2Proof

/-- 8 bits: a general register, a memory byte, an instruction byte, a port number. -/
abbrev Byte := BitVec 8

/-- 16 bits: an address, PC, SP, a register pair. -/
abbrev Word := BitVec 16

end Sys2Proof
end

