-- ==== Sys2Proof/Config.lean ====
section
/-! DEFINITION. What an implementation or a board fixes (00_scope.md R3) and the free values: the oracles of the
environment of which a model may assume nothing. The parameters that select between two behaviours are plain data
(a `Platform` that `State` carries and no step changes), so that a statement over every state covers every choice of
them. The oracles are opaque constants without a body: nothing can be proved of a value they give. -/

namespace Sys2Proof

/-- What the platform has at an address (20_memory.md R50). -/
inductive MemKind where
  /-- plain read-write memory -/
  | ram
  /-- memory on which a write has no effect -/
  | rom
  /-- a memory-mapped device: reads are oracle draws, writes are output events -/
  | device
  /-- nothing there: a read returns an oracle byte, a write has no effect -/
  | absent
  deriving DecidableEq, Repr

/-- One range of addresses of the platform's memory map, both ends included. -/
structure Region where
  first : Nat
  last  : Nat
  kind  : MemKind
  deriving DecidableEq, Repr

/-- The parameter IRQ_MODEL (00_scope.md R3, 92_eei_decisions.md D13). -/
inductive IrqModel where
  /-- the default: the environment never requests an interrupt -/
  | none
  /-- the acceptance rules of 60_exceptions.md R310 to R316 (general knowledge, log 6) -/
  | gk8085
  deriving DecidableEq, Repr

/-- The open parameters of 00_scope.md R3 that select a behaviour. -/
structure Platform where
  irq       : IrqModel
  /-- HAS_RIM_SIM: true is the 8085 variant, the spec's target; false is the 8080A subset. -/
  hasRimSim : Bool
  /-- MemMap: the first region that holds an address decides; an address in no region is `ram`, the spec's default. -/
  memMap    : List Region
  deriving DecidableEq, Repr

/-- The defaults the spec gives its parameters (00_scope.md R3). -/
def Platform.standard : Platform := { irq := .none, hasRimSim := true, memMap := [] }

/-- OPC_RIM (30_encoding.md R69; PRESUMED by the spec itself, log 7). -/
def Config.opcRim : Byte := 0x20

/-- OPC_SIM (30_encoding.md R69; PRESUMED by the spec itself, log 7). -/
def Config.opcSim : Byte := 0x30

/-- IoRead(port): the byte the environment presents at the n-th draw (20_memory.md R47, 93_implementation_defined.md U4;
log 9). -/
opaque Config.ioByte : Nat → Byte → Byte

/-- PinSID(): the bit on the serial input at the n-th draw (10_state.md R31, U4; log 10). -/
opaque Config.sidBit : Nat → Bool

/-- A read of a device address at the n-th draw (20_memory.md R50; log 11). -/
opaque Config.deviceByte : Nat → Word → Byte

/-- A read of an absent address at the n-th draw (20_memory.md R50, 93_implementation_defined.md U3; log 11). -/
opaque Config.absentByte : Nat → Word → Byte

/-- The byte the k-th general register holds after a RESET IN that came at the n-th draw: unspecified
(70_reset_and_hazards.md R340, 93_implementation_defined.md U2; log 29). -/
opaque Config.resetByte : Nat → Nat → Byte

/-- SP after a RESET IN at the n-th draw: unspecified (R340, U2; log 29). -/
opaque Config.resetWord : Nat → Word

/-- The k-th flag after a RESET IN at the n-th draw: unspecified (R340, U2; log 29). -/
opaque Config.resetFlag : Nat → Nat → Bool

end Sys2Proof
end

