-- ==== Sys2Proof/Machine/State.lean ====
section
/-! DEFINITION. The state of the machine (10_state.md R10 to R35) as plain data, the reasons a step can stop, and the
state right after reset (70_reset_and_hazards.md R340). Beside the architectural state it holds what the spec leaves to
the environment as data a step reads: the platform parameters, the samples of the interrupt pins to come, the level of
RESET IN, the trace of output events, and the count of oracle draws. -/

namespace Sys2Proof.Machine

/-- The five flags, each a 1-bit register (R17). -/
structure Flags where
  z  : Bool
  s  : Bool
  p  : Bool
  cy : Bool
  ac : Bool
  deriving DecidableEq, Repr

/-- Memory as address and byte pairs in canonical form: addresses strictly rising, no entry equal to what an unlisted
address reads as (20_memory.md R40; Machine/Memory.lean). -/
abbrev Memory := List Host.Cell

/-- An output event the environment sees, in program order: `IoWrite(port, v)` (20_memory.md R47) or a write to an
address the platform maps to a device (R50). -/
inductive OutEvent where
  | port (port : Byte) (v : Byte)
  | device (addr : Word) (v : Byte)
  deriving DecidableEq, Repr

/-- What the device that answers INTR supplies (60_exceptions.md R314). -/
inductive IntrInstr where
  /-- `RST n` -/
  | rst (n : Fin 8)
  /-- `CALL addr` -/
  | call (addr : Word)
  /-- any other instruction, named by its opcode byte -/
  | other (op : Byte)
  deriving DecidableEq, Repr

/-- What the interrupt pins show at one instruction boundary (60_exceptions.md R309), and the levels a RIM executed just
before that boundary reads (10_state.md R30): the spec's oracles as data (log 8). -/
structure PinSample where
  /-- `PinRST65()` as a RIM executed before this boundary reads it -/
  rimRst65   : Bool
  /-- `PinRST55()` as a RIM executed before this boundary reads it -/
  rimRst55   : Bool
  trap       : Bool
  /-- a rising edge on RST 7.5 since the sample before -/
  rst75Edge  : Bool
  rst65      : Bool
  rst55      : Bool
  intr       : Bool
  /-- `IntrInstruction()`, used when INTR is accepted -/
  intrInstr  : IntrInstr
  deriving DecidableEq, Repr

/-- The sample in which nothing is requested. -/
def PinSample.quiet : PinSample :=
  { rimRst65 := false, rimRst55 := false, trap := false, rst75Edge := false, rst65 := false, rst55 := false,
    intr := false, intrInstr := .rst 0 }

/-- The machine's state (R35), and the model's own fields at the end. -/
structure State where
  a        : Byte
  b        : Byte
  c        : Byte
  d        : Byte
  e        : Byte
  h        : Byte
  l        : Byte
  sp       : Word
  /-- between instructions, the address of the next instruction's first byte (R14) -/
  pc       : Word
  flags    : Flags
  /-- IE, the interrupt enable (R27) -/
  ie       : Bool
  m55      : Bool
  m65      : Bool
  m75      : Bool
  /-- the RST 7.5 flip-flop (R29) -/
  r75      : Bool
  /-- the serial output latch (R31) -/
  sod      : Bool
  halted   : Bool
  /-- set by EI under IRQ_MODEL = gk8085 (R33), on both variants (log 34) -/
  eiDelay  : Bool
  mem      : Memory
  /-- the output trace, oldest event first (20_memory.md R47) -/
  outputs  : List OutEvent
  /-- IRQ_MODEL, HAS_RIM_SIM and MemMap (00_scope.md R3); no step changes it -/
  platform : Platform
  /-- MODEL: how many oracle answers have been drawn (log 12) -/
  draws    : Nat
  /-- MODEL: the pin samples of the boundaries to come, the next one first; after the last, nothing is requested (log 8) -/
  schedule : List PinSample
  /-- MODEL: the level of RESET IN the next step sees (log 29) -/
  resetIn  : Bool
  deriving DecidableEq, Repr

/-- Reasons for a fault. There is none: the hardware raises no synchronous exception (60_exceptions.md R300) and every
instruction completes. -/
inductive Fault where
  deriving DecidableEq, Repr

/-- Reasons a step has no meaning. -/
inductive Refusal where
  /-- raised by `exec` for an instruction that has no meaning in the model; none is left. Safe: the run stops. -/
  | notModelled (mnemonic : String)
  /-- raised by `step` when the byte at `pc` is an unassigned opcode: the spec's `refuse UnassignedOpcode(pc, op)`
  (30_encoding.md R68, log 20). Safe: the run stops and no state changes. -/
  | unassignedOpcode (pc : Word) (op : Byte)
  /-- raised by `step` when INTR is accepted and the device supplies an instruction other than RST n or CALL
  (60_exceptions.md R314, log 28). Safe: the run stops. -/
  | intrInstruction (op : Byte)
  deriving DecidableEq, Repr

/-- The machine right after reset (70_reset_and_hazards.md R340). PC, IE, the masks, R75, SOD, halted and ei_delay hold
the spec's values; the registers, SP and the flags, which the spec leaves unspecified, hold the values of log 1 to 3;
memory lists nothing; the platform is the spec's default. -/
def State.reset : State :=
  { a := 0, b := 0, c := 0, d := 0, e := 0, h := 0, l := 0
    sp := 0
    pc := 0x0000
    flags := { z := false, s := false, p := false, cy := false, ac := false }
    ie := false
    m55 := true
    m65 := true
    m75 := true
    r75 := false
    sod := false
    halted := false
    eiDelay := false
    mem := []
    outputs := []
    platform := Platform.standard
    draws := 0
    schedule := []
    resetIn := false }

end Sys2Proof.Machine
end

