-- ==== Sys2Proof/Syntax.lean ====
section
/-! DEFINITION. The instructions: one constructor for each row of spec/opcode_table.json, named after the row's
mnemonic (30_encoding.md R67), with the operand bytes the row's format carries (R61): an 8-bit datum, a port number,
16-bit data or a 16-bit address. The register, pair, condition and restart number of a row are part of its name, as in
the table; the functions after `Instr` (`movOf`, `aluOf`, ...) name the row of a family by its operand. -/

namespace Sys2Proof

/-- The seven general registers (10_state.md R10). -/
inductive Reg where
  | a | b | c | d | e | h | l
  deriving DecidableEq, Repr

/-- The 16-bit operands of LXI, INX, DCX, DAD (30_encoding.md R63): the pairs BC, DE, HL, and SP. -/
inductive Pair where
  | b | d | h | sp
  deriving DecidableEq, Repr

/-- The 16-bit operands of PUSH and POP (30_encoding.md R63): the pairs BC, DE, HL, and PSW, which is A and F. -/
inductive StackPair where
  | b | d | h | psw
  deriving DecidableEq, Repr

/-- The eight conditions (43_branch.md R200). -/
inductive Cond where
  | nz | z | nc | c | po | pe | p | m
  deriving DecidableEq, Repr

/-- The eight operations the field ALU selects (30_encoding.md R67). -/
inductive AluOp where
  | add | adc | sub | sbb | ana | xra | ora | cmp
  deriving DecidableEq, Repr

/-- The instructions, one constructor per row of the opcode table: the rows with operand bytes first, each group in
the table's order (Lean bounds the position of a constructor that has arguments). -/
inductive Instr where
  /-- LXI B, opcode 01, R104 -/
  | lxiB (d16 : Word)
  /-- MVI B, opcode 06, R111 -/
  | mviB (d8 : Byte)
  /-- MVI C, opcode 0E, R111 -/
  | mviC (d8 : Byte)
  /-- LXI D, opcode 11, R105 -/
  | lxiD (d16 : Word)
  /-- MVI D, opcode 16, R111 -/
  | mviD (d8 : Byte)
  /-- MVI E, opcode 1E, R111 -/
  | mviE (d8 : Byte)
  /-- LXI H, opcode 21, R106 -/
  | lxiH (d16 : Word)
  /-- SHLD, opcode 22, R113 -/
  | shld (addr : Word)
  /-- MVI H, opcode 26, R111 -/
  | mviH (d8 : Byte)
  /-- LHLD, opcode 2A, R103 -/
  | lhld (addr : Word)
  /-- MVI L, opcode 2E, R111 -/
  | mviL (d8 : Byte)
  /-- LXI SP, opcode 31, R107 -/
  | lxiSp (d16 : Word)
  /-- STA, opcode 32, R114 -/
  | sta (addr : Word)
  /-- MVI M, opcode 36, R112 -/
  | mviM (d8 : Byte)
  /-- LDA, opcode 3A, R100 -/
  | lda (addr : Word)
  /-- MVI A, opcode 3E, R111 -/
  | mviA (d8 : Byte)
  /-- JNZ, opcode C2, R224 -/
  | jnz (addr : Word)
  /-- JMP, opcode C3, R220 -/
  | jmp (addr : Word)
  /-- CNZ, opcode C4, R205 -/
  | cnz (addr : Word)
  /-- ADI, opcode C6, R135 -/
  | adi (d8 : Byte)
  /-- JZ, opcode CA, R223 -/
  | jz (addr : Word)
  /-- CZ, opcode CC, R204 -/
  | cz (addr : Word)
  /-- CALL, opcode CD, R201 -/
  | call (addr : Word)
  /-- ACI, opcode CE, R130 -/
  | aci (d8 : Byte)
  /-- JNC, opcode D2, R222 -/
  | jnc (addr : Word)
  /-- OUT, opcode D3, R245 -/
  | outPort (port : Byte)
  /-- CNC, opcode D4, R203 -/
  | cnc (addr : Word)
  /-- SUI, opcode D6, R153 -/
  | sui (d8 : Byte)
  /-- JC, opcode DA, R221 -/
  | jc (addr : Word)
  /-- IN, opcode DB, R244 -/
  | inPort (port : Byte)
  /-- CC, opcode DC, R202 -/
  | cc (addr : Word)
  /-- SBI, opcode DE, R154 -/
  | sbi (d8 : Byte)
  /-- JPO, opcode E2, R228 -/
  | jpo (addr : Word)
  /-- CPO, opcode E4, R209 -/
  | cpo (addr : Word)
  /-- ANI, opcode E6, R181 -/
  | ani (d8 : Byte)
  /-- JPE, opcode EA, R227 -/
  | jpe (addr : Word)
  /-- CPE, opcode EC, R208 -/
  | cpe (addr : Word)
  /-- XRI, opcode EE, R182 -/
  | xri (d8 : Byte)
  /-- JP, opcode F2, R225 -/
  | jp (addr : Word)
  /-- CP, opcode F4, R206 -/
  | cp (addr : Word)
  /-- ORI, opcode F6, R183 -/
  | ori (d8 : Byte)
  /-- JM, opcode FA, R226 -/
  | jm (addr : Word)
  /-- CM, opcode FC, R207 -/
  | cm (addr : Word)
  /-- CPI, opcode FE, R184 -/
  | cpi (d8 : Byte)
  /-- NOP, opcode 00, R243 -/
  | nop
  /-- STAX B, opcode 02, R115 -/
  | staxB
  /-- INX B, opcode 03, R145 -/
  | inxB
  /-- INR B, opcode 04, R141 -/
  | inrB
  /-- DCR B, opcode 05, R142 -/
  | dcrB
  /-- RLC, opcode 07, R185 -/
  | rlc
  /-- DAD B, opcode 09, R138 -/
  | dadB
  /-- LDAX B, opcode 0A, R101 -/
  | ldaxB
  /-- DCX B, opcode 0B, R149 -/
  | dcxB
  /-- INR C, opcode 0C, R141 -/
  | inrC
  /-- DCR C, opcode 0D, R142 -/
  | dcrC
  /-- RRC, opcode 0F, R187 -/
  | rrc
  /-- STAX D, opcode 12, R116 -/
  | staxD
  /-- INX D, opcode 13, R147 -/
  | inxD
  /-- INR D, opcode 14, R141 -/
  | inrD
  /-- DCR D, opcode 15, R142 -/
  | dcrD
  /-- RAL, opcode 17, R188 -/
  | ral
  /-- DAD D, opcode 19, R140 -/
  | dadD
  /-- LDAX D, opcode 1A, R102 -/
  | ldaxD
  /-- DCX D, opcode 1B, R151 -/
  | dcxD
  /-- INR E, opcode 1C, R141 -/
  | inrE
  /-- DCR E, opcode 1D, R142 -/
  | dcrE
  /-- RAR, opcode 1F, R186 -/
  | rar
  /-- RIM, opcode 20, R258 -/
  | rim
  /-- INX H, opcode 23, R146 -/
  | inxH
  /-- INR H, opcode 24, R141 -/
  | inrH
  /-- DCR H, opcode 25, R142 -/
  | dcrH
  /-- DAA, opcode 27, R136 -/
  | daa
  /-- DAD H, opcode 29, R139 -/
  | dadH
  /-- DCX H, opcode 2B, R150 -/
  | dcxH
  /-- INR L, opcode 2C, R141 -/
  | inrL
  /-- DCR L, opcode 2D, R142 -/
  | dcrL
  /-- CMA, opcode 2F, R178 -/
  | cma
  /-- SIM, opcode 30, R259 -/
  | sim
  /-- INX SP, opcode 33, R148 -/
  | inxSp
  /-- INR M, opcode 34, R143 -/
  | inrM
  /-- DCR M, opcode 35, R144 -/
  | dcrM
  /-- STC, opcode 37, R180 -/
  | stc
  /-- DAD SP, opcode 39, R137 -/
  | dadSp
  /-- DCX SP, opcode 3B, R152 -/
  | dcxSp
  /-- INR A, opcode 3C, R141 -/
  | inrA
  /-- DCR A, opcode 3D, R142 -/
  | dcrA
  /-- CMC, opcode 3F, R179 -/
  | cmc
  /-- MOV B,B, opcode 40, R108 -/
  | movBB
  /-- MOV B,C, opcode 41, R108 -/
  | movBC
  /-- MOV B,D, opcode 42, R108 -/
  | movBD
  /-- MOV B,E, opcode 43, R108 -/
  | movBE
  /-- MOV B,H, opcode 44, R108 -/
  | movBH
  /-- MOV B,L, opcode 45, R108 -/
  | movBL
  /-- MOV B,M, opcode 46, R109 -/
  | movBM
  /-- MOV B,A, opcode 47, R108 -/
  | movBA
  /-- MOV C,B, opcode 48, R108 -/
  | movCB
  /-- MOV C,C, opcode 49, R108 -/
  | movCC
  /-- MOV C,D, opcode 4A, R108 -/
  | movCD
  /-- MOV C,E, opcode 4B, R108 -/
  | movCE
  /-- MOV C,H, opcode 4C, R108 -/
  | movCH
  /-- MOV C,L, opcode 4D, R108 -/
  | movCL
  /-- MOV C,M, opcode 4E, R109 -/
  | movCM
  /-- MOV C,A, opcode 4F, R108 -/
  | movCA
  /-- MOV D,B, opcode 50, R108 -/
  | movDB
  /-- MOV D,C, opcode 51, R108 -/
  | movDC
  /-- MOV D,D, opcode 52, R108 -/
  | movDD
  /-- MOV D,E, opcode 53, R108 -/
  | movDE
  /-- MOV D,H, opcode 54, R108 -/
  | movDH
  /-- MOV D,L, opcode 55, R108 -/
  | movDL
  /-- MOV D,M, opcode 56, R109 -/
  | movDM
  /-- MOV D,A, opcode 57, R108 -/
  | movDA
  /-- MOV E,B, opcode 58, R108 -/
  | movEB
  /-- MOV E,C, opcode 59, R108 -/
  | movEC
  /-- MOV E,D, opcode 5A, R108 -/
  | movED
  /-- MOV E,E, opcode 5B, R108 -/
  | movEE
  /-- MOV E,H, opcode 5C, R108 -/
  | movEH
  /-- MOV E,L, opcode 5D, R108 -/
  | movEL
  /-- MOV E,M, opcode 5E, R109 -/
  | movEM
  /-- MOV E,A, opcode 5F, R108 -/
  | movEA
  /-- MOV H,B, opcode 60, R108 -/
  | movHB
  /-- MOV H,C, opcode 61, R108 -/
  | movHC
  /-- MOV H,D, opcode 62, R108 -/
  | movHD
  /-- MOV H,E, opcode 63, R108 -/
  | movHE
  /-- MOV H,H, opcode 64, R108 -/
  | movHH
  /-- MOV H,L, opcode 65, R108 -/
  | movHL
  /-- MOV H,M, opcode 66, R109 -/
  | movHM
  /-- MOV H,A, opcode 67, R108 -/
  | movHA
  /-- MOV L,B, opcode 68, R108 -/
  | movLB
  /-- MOV L,C, opcode 69, R108 -/
  | movLC
  /-- MOV L,D, opcode 6A, R108 -/
  | movLD
  /-- MOV L,E, opcode 6B, R108 -/
  | movLE
  /-- MOV L,H, opcode 6C, R108 -/
  | movLH
  /-- MOV L,L, opcode 6D, R108 -/
  | movLL
  /-- MOV L,M, opcode 6E, R109 -/
  | movLM
  /-- MOV L,A, opcode 6F, R108 -/
  | movLA
  /-- MOV M,B, opcode 70, R110 -/
  | movMB
  /-- MOV M,C, opcode 71, R110 -/
  | movMC
  /-- MOV M,D, opcode 72, R110 -/
  | movMD
  /-- MOV M,E, opcode 73, R110 -/
  | movME
  /-- MOV M,H, opcode 74, R110 -/
  | movMH
  /-- MOV M,L, opcode 75, R110 -/
  | movML
  /-- HLT, opcode 76, R242 -/
  | hlt
  /-- MOV M,A, opcode 77, R110 -/
  | movMA
  /-- MOV A,B, opcode 78, R108 -/
  | movAB
  /-- MOV A,C, opcode 79, R108 -/
  | movAC
  /-- MOV A,D, opcode 7A, R108 -/
  | movAD
  /-- MOV A,E, opcode 7B, R108 -/
  | movAE
  /-- MOV A,H, opcode 7C, R108 -/
  | movAH
  /-- MOV A,L, opcode 7D, R108 -/
  | movAL
  /-- MOV A,M, opcode 7E, R109 -/
  | movAM
  /-- MOV A,A, opcode 7F, R108 -/
  | movAA
  /-- ADD B, opcode 80, R133 -/
  | addB
  /-- ADD C, opcode 81, R133 -/
  | addC
  /-- ADD D, opcode 82, R133 -/
  | addD
  /-- ADD E, opcode 83, R133 -/
  | addE
  /-- ADD H, opcode 84, R133 -/
  | addH
  /-- ADD L, opcode 85, R133 -/
  | addL
  /-- ADD M, opcode 86, R134 -/
  | addM
  /-- ADD A, opcode 87, R133 -/
  | addA
  /-- ADC B, opcode 88, R131 -/
  | adcB
  /-- ADC C, opcode 89, R131 -/
  | adcC
  /-- ADC D, opcode 8A, R131 -/
  | adcD
  /-- ADC E, opcode 8B, R131 -/
  | adcE
  /-- ADC H, opcode 8C, R131 -/
  | adcH
  /-- ADC L, opcode 8D, R131 -/
  | adcL
  /-- ADC M, opcode 8E, R132 -/
  | adcM
  /-- ADC A, opcode 8F, R131 -/
  | adcA
  /-- SUB B, opcode 90, R155 -/
  | subB
  /-- SUB C, opcode 91, R155 -/
  | subC
  /-- SUB D, opcode 92, R155 -/
  | subD
  /-- SUB E, opcode 93, R155 -/
  | subE
  /-- SUB H, opcode 94, R155 -/
  | subH
  /-- SUB L, opcode 95, R155 -/
  | subL
  /-- SUB M, opcode 96, R157 -/
  | subM
  /-- SUB A, opcode 97, R155 -/
  | subA
  /-- SBB B, opcode 98, R156 -/
  | sbbB
  /-- SBB C, opcode 99, R156 -/
  | sbbC
  /-- SBB D, opcode 9A, R156 -/
  | sbbD
  /-- SBB E, opcode 9B, R156 -/
  | sbbE
  /-- SBB H, opcode 9C, R156 -/
  | sbbH
  /-- SBB L, opcode 9D, R156 -/
  | sbbL
  /-- SBB M, opcode 9E, R158 -/
  | sbbM
  /-- SBB A, opcode 9F, R156 -/
  | sbbA
  /-- ANA B, opcode A0, R170 -/
  | anaB
  /-- ANA C, opcode A1, R170 -/
  | anaC
  /-- ANA D, opcode A2, R170 -/
  | anaD
  /-- ANA E, opcode A3, R170 -/
  | anaE
  /-- ANA H, opcode A4, R170 -/
  | anaH
  /-- ANA L, opcode A5, R170 -/
  | anaL
  /-- ANA M, opcode A6, R174 -/
  | anaM
  /-- ANA A, opcode A7, R170 -/
  | anaA
  /-- XRA B, opcode A8, R172 -/
  | xraB
  /-- XRA C, opcode A9, R172 -/
  | xraC
  /-- XRA D, opcode AA, R172 -/
  | xraD
  /-- XRA E, opcode AB, R172 -/
  | xraE
  /-- XRA H, opcode AC, R172 -/
  | xraH
  /-- XRA L, opcode AD, R172 -/
  | xraL
  /-- XRA M, opcode AE, R175 -/
  | xraM
  /-- XRA A, opcode AF, R172 -/
  | xraA
  /-- ORA B, opcode B0, R171 -/
  | oraB
  /-- ORA C, opcode B1, R171 -/
  | oraC
  /-- ORA D, opcode B2, R171 -/
  | oraD
  /-- ORA E, opcode B3, R171 -/
  | oraE
  /-- ORA H, opcode B4, R171 -/
  | oraH
  /-- ORA L, opcode B5, R171 -/
  | oraL
  /-- ORA M, opcode B6, R176 -/
  | oraM
  /-- ORA A, opcode B7, R171 -/
  | oraA
  /-- CMP B, opcode B8, R173 -/
  | cmpB
  /-- CMP C, opcode B9, R173 -/
  | cmpC
  /-- CMP D, opcode BA, R173 -/
  | cmpD
  /-- CMP E, opcode BB, R173 -/
  | cmpE
  /-- CMP H, opcode BC, R173 -/
  | cmpH
  /-- CMP L, opcode BD, R173 -/
  | cmpL
  /-- CMP M, opcode BE, R177 -/
  | cmpM
  /-- CMP A, opcode BF, R173 -/
  | cmpA
  /-- RNZ, opcode C0, R214 -/
  | rnz
  /-- POP B, opcode C1, R251 -/
  | popB
  /-- PUSH B, opcode C5, R247 -/
  | pushB
  /-- RST 0, opcode C7, R219 -/
  | rst0
  /-- RZ, opcode C8, R213 -/
  | rz
  /-- RET, opcode C9, R210 -/
  | ret
  /-- RST 1, opcode CF, R219 -/
  | rst1
  /-- RNC, opcode D0, R212 -/
  | rnc
  /-- POP D, opcode D1, R252 -/
  | popD
  /-- PUSH D, opcode D5, R248 -/
  | pushD
  /-- RST 2, opcode D7, R219 -/
  | rst2
  /-- RC, opcode D8, R211 -/
  | rc
  /-- RST 3, opcode DF, R219 -/
  | rst3
  /-- RPO, opcode E0, R218 -/
  | rpo
  /-- POP H, opcode E1, R253 -/
  | popH
  /-- XTHL, opcode E3, R255 -/
  | xthl
  /-- PUSH H, opcode E5, R249 -/
  | pushH
  /-- RST 4, opcode E7, R219 -/
  | rst4
  /-- RPE, opcode E8, R217 -/
  | rpe
  /-- PCHL, opcode E9, R229 -/
  | pchl
  /-- XCHG, opcode EB, R117 -/
  | xchg
  /-- RST 5, opcode EF, R219 -/
  | rst5
  /-- RP, opcode F0, R215 -/
  | rp
  /-- POP PSW, opcode F1, R250 -/
  | popPsw
  /-- DI, opcode F3, R241 -/
  | di
  /-- PUSH PSW, opcode F5, R246 -/
  | pushPsw
  /-- RST 6, opcode F7, R219 -/
  | rst6
  /-- RM, opcode F8, R216 -/
  | rm
  /-- SPHL, opcode F9, R254 -/
  | sphl
  /-- EI, opcode FB, R240 -/
  | ei
  /-- RST 7, opcode FF, R219 -/
  | rst7
  deriving DecidableEq, Repr

/-- MOV dst,src (40_data_transfer.md R108): the 49 rows without M. -/
def Instr.movOf (dst src : Reg) : Instr :=
  match dst, src with
  | .a, .a => .movAA | .a, .b => .movAB | .a, .c => .movAC | .a, .d => .movAD | .a, .e => .movAE | .a, .h => .movAH | .a, .l => .movAL
  | .b, .a => .movBA | .b, .b => .movBB | .b, .c => .movBC | .b, .d => .movBD | .b, .e => .movBE | .b, .h => .movBH | .b, .l => .movBL
  | .c, .a => .movCA | .c, .b => .movCB | .c, .c => .movCC | .c, .d => .movCD | .c, .e => .movCE | .c, .h => .movCH | .c, .l => .movCL
  | .d, .a => .movDA | .d, .b => .movDB | .d, .c => .movDC | .d, .d => .movDD | .d, .e => .movDE | .d, .h => .movDH | .d, .l => .movDL
  | .e, .a => .movEA | .e, .b => .movEB | .e, .c => .movEC | .e, .d => .movED | .e, .e => .movEE | .e, .h => .movEH | .e, .l => .movEL
  | .h, .a => .movHA | .h, .b => .movHB | .h, .c => .movHC | .h, .d => .movHD | .h, .e => .movHE | .h, .h => .movHH | .h, .l => .movHL
  | .l, .a => .movLA | .l, .b => .movLB | .l, .c => .movLC | .l, .d => .movLD | .l, .e => .movLE | .l, .h => .movLH | .l, .l => .movLL

/-- MOV dst,M (R109). -/
def Instr.loadOf (dst : Reg) : Instr :=
  match dst with
  | .a => .movAM | .b => .movBM | .c => .movCM | .d => .movDM | .e => .movEM | .h => .movHM | .l => .movLM

/-- MOV M,src (R110). -/
def Instr.storeOf (src : Reg) : Instr :=
  match src with
  | .a => .movMA | .b => .movMB | .c => .movMC | .d => .movMD | .e => .movME | .h => .movMH | .l => .movML

/-- MVI dst,data (R111). -/
def Instr.mviOf (dst : Reg) (d8 : Byte) : Instr :=
  match dst with
  | .a => .mviA d8 | .b => .mviB d8 | .c => .mviC d8 | .d => .mviD d8 | .e => .mviE d8 | .h => .mviH d8 | .l => .mviL d8

/-- LXI rp,data16 (R104 to R107). -/
def Instr.lxiOf (rp : Pair) (d16 : Word) : Instr :=
  match rp with
  | .b => .lxiB d16 | .d => .lxiD d16 | .h => .lxiH d16 | .sp => .lxiSp d16

/-- INR r (41_arithmetic.md R141). -/
def Instr.inrOf (r : Reg) : Instr :=
  match r with
  | .a => .inrA | .b => .inrB | .c => .inrC | .d => .inrD | .e => .inrE | .h => .inrH | .l => .inrL

/-- DCR r (R142). -/
def Instr.dcrOf (r : Reg) : Instr :=
  match r with
  | .a => .dcrA | .b => .dcrB | .c => .dcrC | .d => .dcrD | .e => .dcrE | .h => .dcrH | .l => .dcrL

/-- INX rp (R145 to R148). -/
def Instr.inxOf (rp : Pair) : Instr :=
  match rp with
  | .b => .inxB | .d => .inxD | .h => .inxH | .sp => .inxSp

/-- DCX rp (R149 to R152). -/
def Instr.dcxOf (rp : Pair) : Instr :=
  match rp with
  | .b => .dcxB | .d => .dcxD | .h => .dcxH | .sp => .dcxSp

/-- DAD rp (R137 to R140). -/
def Instr.dadOf (rp : Pair) : Instr :=
  match rp with
  | .b => .dadB | .d => .dadD | .h => .dadH | .sp => .dadSp

/-- The arithmetic and logical instructions on a register (41_arithmetic.md, 42_logical.md): 56 rows. -/
def Instr.aluOf (op : AluOp) (r : Reg) : Instr :=
  match op, r with
  | .add, .a => .addA | .add, .b => .addB | .add, .c => .addC | .add, .d => .addD | .add, .e => .addE | .add, .h => .addH | .add, .l => .addL
  | .adc, .a => .adcA | .adc, .b => .adcB | .adc, .c => .adcC | .adc, .d => .adcD | .adc, .e => .adcE | .adc, .h => .adcH | .adc, .l => .adcL
  | .sub, .a => .subA | .sub, .b => .subB | .sub, .c => .subC | .sub, .d => .subD | .sub, .e => .subE | .sub, .h => .subH | .sub, .l => .subL
  | .sbb, .a => .sbbA | .sbb, .b => .sbbB | .sbb, .c => .sbbC | .sbb, .d => .sbbD | .sbb, .e => .sbbE | .sbb, .h => .sbbH | .sbb, .l => .sbbL
  | .ana, .a => .anaA | .ana, .b => .anaB | .ana, .c => .anaC | .ana, .d => .anaD | .ana, .e => .anaE | .ana, .h => .anaH | .ana, .l => .anaL
  | .xra, .a => .xraA | .xra, .b => .xraB | .xra, .c => .xraC | .xra, .d => .xraD | .xra, .e => .xraE | .xra, .h => .xraH | .xra, .l => .xraL
  | .ora, .a => .oraA | .ora, .b => .oraB | .ora, .c => .oraC | .ora, .d => .oraD | .ora, .e => .oraE | .ora, .h => .oraH | .ora, .l => .oraL
  | .cmp, .a => .cmpA | .cmp, .b => .cmpB | .cmp, .c => .cmpC | .cmp, .d => .cmpD | .cmp, .e => .cmpE | .cmp, .h => .cmpH | .cmp, .l => .cmpL

/-- The arithmetic and logical instructions on M. -/
def Instr.aluMOf (op : AluOp) : Instr :=
  match op with
  | .add => .addM | .adc => .adcM | .sub => .subM | .sbb => .sbbM | .ana => .anaM | .xra => .xraM | .ora => .oraM | .cmp => .cmpM

/-- The arithmetic and logical instructions on an immediate byte. -/
def Instr.aluIOf (op : AluOp) (d8 : Byte) : Instr :=
  match op with
  | .add => .adi d8 | .adc => .aci d8 | .sub => .sui d8 | .sbb => .sbi d8 | .ana => .ani d8 | .xra => .xri d8 | .ora => .ori d8 | .cmp => .cpi d8

/-- PUSH rp (44_machine_stack_io.md R246 to R249). -/
def Instr.pushOf (rp : StackPair) : Instr :=
  match rp with
  | .b => .pushB | .d => .pushD | .h => .pushH | .psw => .pushPsw

/-- POP rp (R250 to R253). -/
def Instr.popOf (rp : StackPair) : Instr :=
  match rp with
  | .b => .popB | .d => .popD | .h => .popH | .psw => .popPsw

/-- The conditional jumps (43_branch.md R221 to R228). -/
def Instr.jumpOf (cc : Cond) (addr : Word) : Instr :=
  match cc with
  | .nz => .jnz addr | .z => .jz addr | .nc => .jnc addr | .c => .jc addr | .po => .jpo addr | .pe => .jpe addr | .p => .jp addr | .m => .jm addr

/-- The conditional calls (R202 to R209). -/
def Instr.callOf (cc : Cond) (addr : Word) : Instr :=
  match cc with
  | .nz => .cnz addr | .z => .cz addr | .nc => .cnc addr | .c => .cc addr | .po => .cpo addr | .pe => .cpe addr | .p => .cp addr | .m => .cm addr

/-- The conditional returns (R211 to R218). -/
def Instr.returnOf (cc : Cond) : Instr :=
  match cc with
  | .nz => .rnz | .z => .rz | .nc => .rnc | .c => .rc | .po => .rpo | .pe => .rpe | .p => .rp | .m => .rm

/-- RST n (R219). -/
def Instr.rstOf (n : Fin 8) : Instr :=
  match n with
  | 0 => .rst0 | 1 => .rst1 | 2 => .rst2 | 3 => .rst3 | 4 => .rst4 | 5 => .rst5 | 6 => .rst6 | 7 => .rst7

end Sys2Proof
end

