-- ==== Sys2Proof/Machine/Flags.lean ====
section
/-! DEFINITION. The flag computations (10_state.md R17 to R26), the decimal adjustment (41_arithmetic.md R136) and the
conditions (43_branch.md R200). Sums and differences are computed on integers and reduced at the end, as the spec
writes them. -/

namespace Sys2Proof.Machine

/-- P of a result: 1 when the number of 1 bits is even (R20, R23). -/
def parity8 (v : Byte) : Bool :=
  !(v[7] ^^ v[6] ^^ v[5] ^^ v[4] ^^ v[3] ^^ v[2] ^^ v[1] ^^ v[0])

/-- Z, S and P from an 8-bit result (R23); CY and AC unchanged. -/
def Flags.szp (f : Flags) (v : Byte) : Flags :=
  { f with z := v == 0, s := v[7], p := parity8 v }

/-- What an 8-bit addition or subtraction gives: the result, the carry or borrow, the auxiliary carry. -/
structure Sum8 where
  r  : Byte
  cy : Bool
  ac : Bool
  deriving DecidableEq, Repr

/-- `add8(a, b, c)` (R24). -/
def add8 (a b : Byte) (c : Bool) : Sum8 :=
  let t := a.toNat + b.toNat + c.toNat
  { r := BitVec.ofNat 8 t
    cy := decide (t > 255)
    ac := decide (a.toNat % 16 + b.toNat % 16 + c.toNat > 15) }

/-- AC_SUB: the carry out of bit 3 of the addition a + (~b) + (1 - c) that performs a subtraction (R25, log 14). -/
def acSub (a b : Byte) (c : Bool) : Bool :=
  decide (a.toNat % 16 + (~~~b).toNat % 16 + (1 - c.toNat) > 15)

/-- `sub8(a, b, c)`, `c` the incoming borrow (R25). -/
def sub8 (a b : Byte) (c : Bool) : Sum8 :=
  let t : Int := (a.toNat : Int) - b.toNat - c.toNat
  { r := BitVec.ofInt 8 t
    cy := decide (t < 0)
    ac := acSub a b c }

/-- All five flags from a sum or difference: "le résultat agit sur les indicateurs". -/
def Flags.ofSum (f : Flags) (x : Sum8) : Flags :=
  { f.szp x.r with cy := x.cy, ac := x.ac }

/-- The flags of INR and DCR: those of the sum, CY excepted (R141, R142). -/
def Flags.ofStep (f : Flags) (x : Sum8) : Flags :=
  { f.szp x.r with ac := x.ac }

/-- The flags after a logical operation: Z, S, P from the result, CY = 0, AC as the operation says (42_logical.md). -/
def Flags.ofLogic (f : Flags) (v : Byte) (ac : Bool) : Flags :=
  { f.szp v with cy := false, ac := ac }

/-- DAA: the adjusted accumulator and the flags (41_arithmetic.md R136); the flags are the parameter DAA_FLAGS at its
default (log 15). -/
def decimalAdjust (a : Byte) (f : Flags) : Byte × Flags :=
  let hi := a.toNat / 16
  let lo := a.toNat % 16
  let loAdj := decide (lo ≥ 10) || f.ac
  let hiAdj := decide (hi ≥ 10) || f.cy || (decide (lo ≥ 10) && hi == 9)
  let t := a.toNat + (if loAdj then 6 else 0) + (if hiAdj then 0x60 else 0)
  let r := BitVec.ofNat 8 t
  (r, { f.szp r with cy := hiAdj, ac := decide (lo ≥ 10) })

/-- F, the flags as a byte: S:Z:0:AC:0:P:1:CY (R26). -/
def Flags.toByte (f : Flags) : Byte :=
  BitVec.ofBool f.s ++ BitVec.ofBool f.z ++ 0#1 ++ BitVec.ofBool f.ac ++ 0#1 ++ BitVec.ofBool f.p ++ 1#1 ++
    BitVec.ofBool f.cy

/-- The flags a byte loads; bits 5, 3 and 1 are ignored (R26, 44_machine_stack_io.md R250, log 24). -/
def Flags.ofByte (v : Byte) : Flags :=
  { s := v[7], z := v[6], ac := v[4], p := v[2], cy := v[0] }

/-- `cond(ccc)` (43_branch.md R200). -/
def Flags.holds (f : Flags) (cc : Cond) : Bool :=
  match cc with
  | .nz => !f.z
  | .z => f.z
  | .nc => !f.cy
  | .c => f.cy
  | .po => !f.p
  | .pe => f.p
  | .p => !f.s
  | .m => f.s

end Sys2Proof.Machine
end

