-- ==== Sys2Proof/WellFormed.lean ====
section
/-! DEFINITION. The check an instruction must pass. The types of the operands already bound them, and no operand value
is reserved (30_encoding.md R68); what remains is whether the variant has the instruction at all (00_scope.md R3):
RIM and SIM exist only where HAS_RIM_SIM is true (60_exceptions.md R308). -/

namespace Sys2Proof

/-- Whether the variant selected by HAS_RIM_SIM has the instruction. -/
def Instr.wellFormed (hasRimSim : Bool) (i : Instr) : Bool :=
  hasRimSim || !(i == .rim || i == .sim)

end Sys2Proof
end

