-- ==== Sys2Proof/Decode.lean ====
section
/-! DEFINITION. The decoder and the encoder, both written from spec/30_encoding.md. The opcode byte alone decides the
instruction and its length (R60, R70): `opcodeRow` is the map of R67, one function for each row of it (the high
hexadecimal digit) with one case for each column (the low digit). RIM and SIM stand before the map because their
codes are parameters (R69). A byte of the unassigned set is rejected by name (R68). -/

namespace Sys2Proof

/-- The 16-bit value whose high byte is `hi` and low byte `lo` (00_scope.md section 7, `hi:lo`). -/
def joinBytes (hi lo : Byte) : Word := hi ++ lo

/-- The high byte, v[15:8]. -/
def hiByte (v : Word) : Byte := v.extractLsb' 8 8

/-- The low byte, v[7:0]. -/
def loByte (v : Word) : Byte := v.extractLsb' 0 8

/-- The register code of the fields DDD and SSS (30_encoding.md R62); 110 is M. -/
def Reg.code : Reg → BitVec 3
  | .b => 0b000 | .c => 0b001 | .d => 0b010 | .e => 0b011 | .h => 0b100 | .l => 0b101 | .a => 0b111

/-- The pair code of the field RP in LXI, INX, DCX, DAD (R63). -/
def Pair.code : Pair → BitVec 2
  | .b => 0b00 | .d => 0b01 | .h => 0b10 | .sp => 0b11

/-- The pair code of the field RP in PUSH and POP (R63). -/
def StackPair.code : StackPair → BitVec 2
  | .b => 0b00 | .d => 0b01 | .h => 0b10 | .psw => 0b11

/-- The condition code of the field CCC (R64). -/
def Cond.code : Cond → BitVec 3
  | .nz => 0b000 | .z => 0b001 | .nc => 0b010 | .c => 0b011 | .po => 0b100 | .pe => 0b101 | .p => 0b110 | .m => 0b111

/-- The selector of the field ALU (R67). -/
def AluOp.code : AluOp → BitVec 3
  | .add => 0b000 | .adc => 0b001 | .sub => 0b010 | .sbb => 0b011 | .ana => 0b100 | .xra => 0b101 | .ora => 0b110
  | .cmp => 0b111

/-- The length in bytes of the instruction whose first byte is `op`, by the masks of R60. -/
def instrLen (op : Byte) : Nat :=
  if op &&& 0xCF = 0x01 ∨ op &&& 0xE7 = 0x22 ∨ op &&& 0xC7 = 0xC2 ∨ op &&& 0xC7 = 0xC4 ∨ op = 0xC3 ∨ op = 0xCD then 3
  else if op &&& 0xC7 = 0x06 ∨ op &&& 0xC7 = 0xC6 ∨ op = 0xD3 ∨ op = 0xDB then 2
  else 1

/-- Row 0x of the opcode map (R67). -/
def opcodeRow0 (lo : Nat) (b2 b3 : Byte) : Option Instr :=
  match lo with
  | 0x0 => some .nop
  | 0x1 => some (.lxiB (joinBytes b3 b2))
  | 0x2 => some .staxB
  | 0x3 => some .inxB
  | 0x4 => some .inrB
  | 0x5 => some .dcrB
  | 0x6 => some (.mviB b2)
  | 0x7 => some .rlc
  | 0x9 => some .dadB
  | 0xA => some .ldaxB
  | 0xB => some .dcxB
  | 0xC => some .inrC
  | 0xD => some .dcrC
  | 0xE => some (.mviC b2)
  | 0xF => some .rrc
  | _ => none

/-- Row 1x of the opcode map (R67). -/
def opcodeRow1 (lo : Nat) (b2 b3 : Byte) : Option Instr :=
  match lo with
  | 0x1 => some (.lxiD (joinBytes b3 b2))
  | 0x2 => some .staxD
  | 0x3 => some .inxD
  | 0x4 => some .inrD
  | 0x5 => some .dcrD
  | 0x6 => some (.mviD b2)
  | 0x7 => some .ral
  | 0x9 => some .dadD
  | 0xA => some .ldaxD
  | 0xB => some .dcxD
  | 0xC => some .inrE
  | 0xD => some .dcrE
  | 0xE => some (.mviE b2)
  | 0xF => some .rar
  | _ => none

/-- Row 2x of the opcode map (R67). -/
def opcodeRow2 (lo : Nat) (b2 b3 : Byte) : Option Instr :=
  match lo with
  | 0x1 => some (.lxiH (joinBytes b3 b2))
  | 0x2 => some (.shld (joinBytes b3 b2))
  | 0x3 => some .inxH
  | 0x4 => some .inrH
  | 0x5 => some .dcrH
  | 0x6 => some (.mviH b2)
  | 0x7 => some .daa
  | 0x9 => some .dadH
  | 0xA => some (.lhld (joinBytes b3 b2))
  | 0xB => some .dcxH
  | 0xC => some .inrL
  | 0xD => some .dcrL
  | 0xE => some (.mviL b2)
  | 0xF => some .cma
  | _ => none

/-- Row 3x of the opcode map (R67). -/
def opcodeRow3 (lo : Nat) (b2 b3 : Byte) : Option Instr :=
  match lo with
  | 0x1 => some (.lxiSp (joinBytes b3 b2))
  | 0x2 => some (.sta (joinBytes b3 b2))
  | 0x3 => some .inxSp
  | 0x4 => some .inrM
  | 0x5 => some .dcrM
  | 0x6 => some (.mviM b2)
  | 0x7 => some .stc
  | 0x9 => some .dadSp
  | 0xA => some (.lda (joinBytes b3 b2))
  | 0xB => some .dcxSp
  | 0xC => some .inrA
  | 0xD => some .dcrA
  | 0xE => some (.mviA b2)
  | 0xF => some .cmc
  | _ => none

/-- Row 4x of the opcode map (R67). -/
def opcodeRow4 (lo : Nat) : Option Instr :=
  match lo with
  | 0x0 => some .movBB
  | 0x1 => some .movBC
  | 0x2 => some .movBD
  | 0x3 => some .movBE
  | 0x4 => some .movBH
  | 0x5 => some .movBL
  | 0x6 => some .movBM
  | 0x7 => some .movBA
  | 0x8 => some .movCB
  | 0x9 => some .movCC
  | 0xA => some .movCD
  | 0xB => some .movCE
  | 0xC => some .movCH
  | 0xD => some .movCL
  | 0xE => some .movCM
  | 0xF => some .movCA
  | _ => none

/-- Row 5x of the opcode map (R67). -/
def opcodeRow5 (lo : Nat) : Option Instr :=
  match lo with
  | 0x0 => some .movDB
  | 0x1 => some .movDC
  | 0x2 => some .movDD
  | 0x3 => some .movDE
  | 0x4 => some .movDH
  | 0x5 => some .movDL
  | 0x6 => some .movDM
  | 0x7 => some .movDA
  | 0x8 => some .movEB
  | 0x9 => some .movEC
  | 0xA => some .movED
  | 0xB => some .movEE
  | 0xC => some .movEH
  | 0xD => some .movEL
  | 0xE => some .movEM
  | 0xF => some .movEA
  | _ => none

/-- Row 6x of the opcode map (R67). -/
def opcodeRow6 (lo : Nat) : Option Instr :=
  match lo with
  | 0x0 => some .movHB
  | 0x1 => some .movHC
  | 0x2 => some .movHD
  | 0x3 => some .movHE
  | 0x4 => some .movHH
  | 0x5 => some .movHL
  | 0x6 => some .movHM
  | 0x7 => some .movHA
  | 0x8 => some .movLB
  | 0x9 => some .movLC
  | 0xA => some .movLD
  | 0xB => some .movLE
  | 0xC => some .movLH
  | 0xD => some .movLL
  | 0xE => some .movLM
  | 0xF => some .movLA
  | _ => none

/-- Row 7x of the opcode map (R67). -/
def opcodeRow7 (lo : Nat) : Option Instr :=
  match lo with
  | 0x0 => some .movMB
  | 0x1 => some .movMC
  | 0x2 => some .movMD
  | 0x3 => some .movME
  | 0x4 => some .movMH
  | 0x5 => some .movML
  | 0x6 => some .hlt
  | 0x7 => some .movMA
  | 0x8 => some .movAB
  | 0x9 => some .movAC
  | 0xA => some .movAD
  | 0xB => some .movAE
  | 0xC => some .movAH
  | 0xD => some .movAL
  | 0xE => some .movAM
  | 0xF => some .movAA
  | _ => none

/-- Row 8x of the opcode map (R67). -/
def opcodeRow8 (lo : Nat) : Option Instr :=
  match lo with
  | 0x0 => some .addB
  | 0x1 => some .addC
  | 0x2 => some .addD
  | 0x3 => some .addE
  | 0x4 => some .addH
  | 0x5 => some .addL
  | 0x6 => some .addM
  | 0x7 => some .addA
  | 0x8 => some .adcB
  | 0x9 => some .adcC
  | 0xA => some .adcD
  | 0xB => some .adcE
  | 0xC => some .adcH
  | 0xD => some .adcL
  | 0xE => some .adcM
  | 0xF => some .adcA
  | _ => none

/-- Row 9x of the opcode map (R67). -/
def opcodeRow9 (lo : Nat) : Option Instr :=
  match lo with
  | 0x0 => some .subB
  | 0x1 => some .subC
  | 0x2 => some .subD
  | 0x3 => some .subE
  | 0x4 => some .subH
  | 0x5 => some .subL
  | 0x6 => some .subM
  | 0x7 => some .subA
  | 0x8 => some .sbbB
  | 0x9 => some .sbbC
  | 0xA => some .sbbD
  | 0xB => some .sbbE
  | 0xC => some .sbbH
  | 0xD => some .sbbL
  | 0xE => some .sbbM
  | 0xF => some .sbbA
  | _ => none

/-- Row Ax of the opcode map (R67). -/
def opcodeRowA (lo : Nat) : Option Instr :=
  match lo with
  | 0x0 => some .anaB
  | 0x1 => some .anaC
  | 0x2 => some .anaD
  | 0x3 => some .anaE
  | 0x4 => some .anaH
  | 0x5 => some .anaL
  | 0x6 => some .anaM
  | 0x7 => some .anaA
  | 0x8 => some .xraB
  | 0x9 => some .xraC
  | 0xA => some .xraD
  | 0xB => some .xraE
  | 0xC => some .xraH
  | 0xD => some .xraL
  | 0xE => some .xraM
  | 0xF => some .xraA
  | _ => none

/-- Row Bx of the opcode map (R67). -/
def opcodeRowB (lo : Nat) : Option Instr :=
  match lo with
  | 0x0 => some .oraB
  | 0x1 => some .oraC
  | 0x2 => some .oraD
  | 0x3 => some .oraE
  | 0x4 => some .oraH
  | 0x5 => some .oraL
  | 0x6 => some .oraM
  | 0x7 => some .oraA
  | 0x8 => some .cmpB
  | 0x9 => some .cmpC
  | 0xA => some .cmpD
  | 0xB => some .cmpE
  | 0xC => some .cmpH
  | 0xD => some .cmpL
  | 0xE => some .cmpM
  | 0xF => some .cmpA
  | _ => none

/-- Row Cx of the opcode map (R67). -/
def opcodeRowC (lo : Nat) (b2 b3 : Byte) : Option Instr :=
  match lo with
  | 0x0 => some .rnz
  | 0x1 => some .popB
  | 0x2 => some (.jnz (joinBytes b3 b2))
  | 0x3 => some (.jmp (joinBytes b3 b2))
  | 0x4 => some (.cnz (joinBytes b3 b2))
  | 0x5 => some .pushB
  | 0x6 => some (.adi b2)
  | 0x7 => some .rst0
  | 0x8 => some .rz
  | 0x9 => some .ret
  | 0xA => some (.jz (joinBytes b3 b2))
  | 0xC => some (.cz (joinBytes b3 b2))
  | 0xD => some (.call (joinBytes b3 b2))
  | 0xE => some (.aci b2)
  | 0xF => some .rst1
  | _ => none

/-- Row Dx of the opcode map (R67). -/
def opcodeRowD (lo : Nat) (b2 b3 : Byte) : Option Instr :=
  match lo with
  | 0x0 => some .rnc
  | 0x1 => some .popD
  | 0x2 => some (.jnc (joinBytes b3 b2))
  | 0x3 => some (.outPort b2)
  | 0x4 => some (.cnc (joinBytes b3 b2))
  | 0x5 => some .pushD
  | 0x6 => some (.sui b2)
  | 0x7 => some .rst2
  | 0x8 => some .rc
  | 0xA => some (.jc (joinBytes b3 b2))
  | 0xB => some (.inPort b2)
  | 0xC => some (.cc (joinBytes b3 b2))
  | 0xE => some (.sbi b2)
  | 0xF => some .rst3
  | _ => none

/-- Row Ex of the opcode map (R67). -/
def opcodeRowE (lo : Nat) (b2 b3 : Byte) : Option Instr :=
  match lo with
  | 0x0 => some .rpo
  | 0x1 => some .popH
  | 0x2 => some (.jpo (joinBytes b3 b2))
  | 0x3 => some .xthl
  | 0x4 => some (.cpo (joinBytes b3 b2))
  | 0x5 => some .pushH
  | 0x6 => some (.ani b2)
  | 0x7 => some .rst4
  | 0x8 => some .rpe
  | 0x9 => some .pchl
  | 0xA => some (.jpe (joinBytes b3 b2))
  | 0xB => some .xchg
  | 0xC => some (.cpe (joinBytes b3 b2))
  | 0xE => some (.xri b2)
  | 0xF => some .rst5
  | _ => none

/-- Row Fx of the opcode map (R67). -/
def opcodeRowF (lo : Nat) (b2 b3 : Byte) : Option Instr :=
  match lo with
  | 0x0 => some .rp
  | 0x1 => some .popPsw
  | 0x2 => some (.jp (joinBytes b3 b2))
  | 0x3 => some .di
  | 0x4 => some (.cp (joinBytes b3 b2))
  | 0x5 => some .pushPsw
  | 0x6 => some (.ori b2)
  | 0x7 => some .rst6
  | 0x8 => some .rm
  | 0x9 => some .sphl
  | 0xA => some (.jm (joinBytes b3 b2))
  | 0xB => some .ei
  | 0xC => some (.cm (joinBytes b3 b2))
  | 0xE => some (.cpi b2)
  | 0xF => some .rst7
  | _ => none

/-- The opcode map of R67: `op` is the first byte, `b2` and `b3` the bytes after it, read only by the rows that have
them. `none` on the unassigned codes of R68. -/
def decodeOp (op b2 b3 : Byte) : Option Instr :=
  if op = Config.opcRim then some .rim
  else if op = Config.opcSim then some .sim
  else
    let lo := op.toNat % 16
    match op.toNat / 16 with
    | 0x0 => opcodeRow0 lo b2 b3
    | 0x1 => opcodeRow1 lo b2 b3
    | 0x2 => opcodeRow2 lo b2 b3
    | 0x3 => opcodeRow3 lo b2 b3
    | 0x4 => opcodeRow4 lo
    | 0x5 => opcodeRow5 lo
    | 0x6 => opcodeRow6 lo
    | 0x7 => opcodeRow7 lo
    | 0x8 => opcodeRow8 lo
    | 0x9 => opcodeRow9 lo
    | 0xA => opcodeRowA lo
    | 0xB => opcodeRowB lo
    | 0xC => opcodeRowC lo b2 b3
    | 0xD => opcodeRowD lo b2 b3
    | 0xE => opcodeRowE lo b2 b3
    | 0xF => opcodeRowF lo b2 b3
    | _ => none

/-- Why bytes do not decode. -/
inductive DecodeError where
  /-- the first byte is of the unassigned set (R68) -/
  | unassigned (op : Byte)
  /-- fewer bytes than the instruction has -/
  | truncated
  deriving DecidableEq, Repr

/-- Decoding (R70): the instruction at the head of the bytes and the bytes that follow it. Total; an operand byte the
instruction does not have is not looked at. -/
def decode (bytes : List Byte) : Except DecodeError (Instr × List Byte) :=
  match bytes with
  | [] => .error .truncated
  | op :: rest =>
    if rest.length < instrLen op - 1 then .error .truncated
    else
      match decodeOp op (rest.getD 0 0) (rest.getD 1 0) with
      | some i => .ok (i, rest.drop (instrLen op - 1))
      | none => .error (.unassigned op)

/-- Decoding on a variant: without RIM and SIM their two codes join the unassigned set (00_scope.md R3, HAS_RIM_SIM). -/
def decodeOn (hasRimSim : Bool) (bytes : List Byte) : Except DecodeError (Instr × List Byte) :=
  match decode bytes with
  | .error e => .error e
  | .ok (i, rest) => if i.wellFormed hasRimSim then .ok (i, rest) else .error (.unassigned (bytes.headD 0))

/-- An opcode byte followed by a 16-bit operand, low byte first (R61, formats F3D and F3A; 20_memory.md R41). -/
def withWord (op : Byte) (v : Word) : List Byte := [op, loByte v, hiByte v]

/-- The bytes of an instruction, the first at the lowest address (R61, R67, R69). -/
def encode : Instr → List Byte
  | .nop => [0x00]
  | .lxiB d16 => withWord 0x01 d16
  | .staxB => [0x02]
  | .inxB => [0x03]
  | .inrB => [0x04]
  | .dcrB => [0x05]
  | .mviB d8 => [0x06, d8]
  | .rlc => [0x07]
  | .dadB => [0x09]
  | .ldaxB => [0x0A]
  | .dcxB => [0x0B]
  | .inrC => [0x0C]
  | .dcrC => [0x0D]
  | .mviC d8 => [0x0E, d8]
  | .rrc => [0x0F]
  | .lxiD d16 => withWord 0x11 d16
  | .staxD => [0x12]
  | .inxD => [0x13]
  | .inrD => [0x14]
  | .dcrD => [0x15]
  | .mviD d8 => [0x16, d8]
  | .ral => [0x17]
  | .dadD => [0x19]
  | .ldaxD => [0x1A]
  | .dcxD => [0x1B]
  | .inrE => [0x1C]
  | .dcrE => [0x1D]
  | .mviE d8 => [0x1E, d8]
  | .rar => [0x1F]
  | .rim => [Config.opcRim]
  | .lxiH d16 => withWord 0x21 d16
  | .shld addr => withWord 0x22 addr
  | .inxH => [0x23]
  | .inrH => [0x24]
  | .dcrH => [0x25]
  | .mviH d8 => [0x26, d8]
  | .daa => [0x27]
  | .dadH => [0x29]
  | .lhld addr => withWord 0x2A addr
  | .dcxH => [0x2B]
  | .inrL => [0x2C]
  | .dcrL => [0x2D]
  | .mviL d8 => [0x2E, d8]
  | .cma => [0x2F]
  | .sim => [Config.opcSim]
  | .lxiSp d16 => withWord 0x31 d16
  | .sta addr => withWord 0x32 addr
  | .inxSp => [0x33]
  | .inrM => [0x34]
  | .dcrM => [0x35]
  | .mviM d8 => [0x36, d8]
  | .stc => [0x37]
  | .dadSp => [0x39]
  | .lda addr => withWord 0x3A addr
  | .dcxSp => [0x3B]
  | .inrA => [0x3C]
  | .dcrA => [0x3D]
  | .mviA d8 => [0x3E, d8]
  | .cmc => [0x3F]
  | .movBB => [0x40]
  | .movBC => [0x41]
  | .movBD => [0x42]
  | .movBE => [0x43]
  | .movBH => [0x44]
  | .movBL => [0x45]
  | .movBM => [0x46]
  | .movBA => [0x47]
  | .movCB => [0x48]
  | .movCC => [0x49]
  | .movCD => [0x4A]
  | .movCE => [0x4B]
  | .movCH => [0x4C]
  | .movCL => [0x4D]
  | .movCM => [0x4E]
  | .movCA => [0x4F]
  | .movDB => [0x50]
  | .movDC => [0x51]
  | .movDD => [0x52]
  | .movDE => [0x53]
  | .movDH => [0x54]
  | .movDL => [0x55]
  | .movDM => [0x56]
  | .movDA => [0x57]
  | .movEB => [0x58]
  | .movEC => [0x59]
  | .movED => [0x5A]
  | .movEE => [0x5B]
  | .movEH => [0x5C]
  | .movEL => [0x5D]
  | .movEM => [0x5E]
  | .movEA => [0x5F]
  | .movHB => [0x60]
  | .movHC => [0x61]
  | .movHD => [0x62]
  | .movHE => [0x63]
  | .movHH => [0x64]
  | .movHL => [0x65]
  | .movHM => [0x66]
  | .movHA => [0x67]
  | .movLB => [0x68]
  | .movLC => [0x69]
  | .movLD => [0x6A]
  | .movLE => [0x6B]
  | .movLH => [0x6C]
  | .movLL => [0x6D]
  | .movLM => [0x6E]
  | .movLA => [0x6F]
  | .movMB => [0x70]
  | .movMC => [0x71]
  | .movMD => [0x72]
  | .movME => [0x73]
  | .movMH => [0x74]
  | .movML => [0x75]
  | .hlt => [0x76]
  | .movMA => [0x77]
  | .movAB => [0x78]
  | .movAC => [0x79]
  | .movAD => [0x7A]
  | .movAE => [0x7B]
  | .movAH => [0x7C]
  | .movAL => [0x7D]
  | .movAM => [0x7E]
  | .movAA => [0x7F]
  | .addB => [0x80]
  | .addC => [0x81]
  | .addD => [0x82]
  | .addE => [0x83]
  | .addH => [0x84]
  | .addL => [0x85]
  | .addM => [0x86]
  | .addA => [0x87]
  | .adcB => [0x88]
  | .adcC => [0x89]
  | .adcD => [0x8A]
  | .adcE => [0x8B]
  | .adcH => [0x8C]
  | .adcL => [0x8D]
  | .adcM => [0x8E]
  | .adcA => [0x8F]
  | .subB => [0x90]
  | .subC => [0x91]
  | .subD => [0x92]
  | .subE => [0x93]
  | .subH => [0x94]
  | .subL => [0x95]
  | .subM => [0x96]
  | .subA => [0x97]
  | .sbbB => [0x98]
  | .sbbC => [0x99]
  | .sbbD => [0x9A]
  | .sbbE => [0x9B]
  | .sbbH => [0x9C]
  | .sbbL => [0x9D]
  | .sbbM => [0x9E]
  | .sbbA => [0x9F]
  | .anaB => [0xA0]
  | .anaC => [0xA1]
  | .anaD => [0xA2]
  | .anaE => [0xA3]
  | .anaH => [0xA4]
  | .anaL => [0xA5]
  | .anaM => [0xA6]
  | .anaA => [0xA7]
  | .xraB => [0xA8]
  | .xraC => [0xA9]
  | .xraD => [0xAA]
  | .xraE => [0xAB]
  | .xraH => [0xAC]
  | .xraL => [0xAD]
  | .xraM => [0xAE]
  | .xraA => [0xAF]
  | .oraB => [0xB0]
  | .oraC => [0xB1]
  | .oraD => [0xB2]
  | .oraE => [0xB3]
  | .oraH => [0xB4]
  | .oraL => [0xB5]
  | .oraM => [0xB6]
  | .oraA => [0xB7]
  | .cmpB => [0xB8]
  | .cmpC => [0xB9]
  | .cmpD => [0xBA]
  | .cmpE => [0xBB]
  | .cmpH => [0xBC]
  | .cmpL => [0xBD]
  | .cmpM => [0xBE]
  | .cmpA => [0xBF]
  | .rnz => [0xC0]
  | .popB => [0xC1]
  | .jnz addr => withWord 0xC2 addr
  | .jmp addr => withWord 0xC3 addr
  | .cnz addr => withWord 0xC4 addr
  | .pushB => [0xC5]
  | .adi d8 => [0xC6, d8]
  | .rst0 => [0xC7]
  | .rz => [0xC8]
  | .ret => [0xC9]
  | .jz addr => withWord 0xCA addr
  | .cz addr => withWord 0xCC addr
  | .call addr => withWord 0xCD addr
  | .aci d8 => [0xCE, d8]
  | .rst1 => [0xCF]
  | .rnc => [0xD0]
  | .popD => [0xD1]
  | .jnc addr => withWord 0xD2 addr
  | .outPort port => [0xD3, port]
  | .cnc addr => withWord 0xD4 addr
  | .pushD => [0xD5]
  | .sui d8 => [0xD6, d8]
  | .rst2 => [0xD7]
  | .rc => [0xD8]
  | .jc addr => withWord 0xDA addr
  | .inPort port => [0xDB, port]
  | .cc addr => withWord 0xDC addr
  | .sbi d8 => [0xDE, d8]
  | .rst3 => [0xDF]
  | .rpo => [0xE0]
  | .popH => [0xE1]
  | .jpo addr => withWord 0xE2 addr
  | .xthl => [0xE3]
  | .cpo addr => withWord 0xE4 addr
  | .pushH => [0xE5]
  | .ani d8 => [0xE6, d8]
  | .rst4 => [0xE7]
  | .rpe => [0xE8]
  | .pchl => [0xE9]
  | .jpe addr => withWord 0xEA addr
  | .xchg => [0xEB]
  | .cpe addr => withWord 0xEC addr
  | .xri d8 => [0xEE, d8]
  | .rst5 => [0xEF]
  | .rp => [0xF0]
  | .popPsw => [0xF1]
  | .jp addr => withWord 0xF2 addr
  | .di => [0xF3]
  | .cp addr => withWord 0xF4 addr
  | .pushPsw => [0xF5]
  | .ori d8 => [0xF6, d8]
  | .rst6 => [0xF7]
  | .rm => [0xF8]
  | .sphl => [0xF9]
  | .jm addr => withWord 0xFA addr
  | .ei => [0xFB]
  | .cm addr => withWord 0xFC addr
  | .cpi d8 => [0xFE, d8]
  | .rst7 => [0xFF]

/-- The three bytes of the longest instruction, the first at the lowest address, from the bits `w` of a table row,
numbered as spec/opcode_table.json numbers them: bit 0 is the least significant bit of the first byte, the second byte
is bits 15 to 8, the third bits 23 to 16; every bit from `nbits` on is 0. -/
def tableBytes (nbits w : Nat) : List Byte :=
  let v := w % 2 ^ nbits
  [BitVec.ofNat 8 v, BitVec.ofNat 8 (v / 256), BitVec.ofNat 8 (v / 65536)]

/-- The instruction the decoder reads from the bits of a table row. -/
def decodeTableWord (nbits w : Nat) : Option Instr :=
  match decode (tableBytes nbits w) with
  | .ok (i, _) => some i
  | .error _ => none

end Sys2Proof
end

