-- ==== Sys2Proof/Machine/Memory.lean ====
section
/-! DEFINITION. Memory as a canonical list: what one address holds, writing one address, and the canonical form. The
keys are addresses 0 to 65535 (20_memory.md R40); the byte is the only addressable unit (R42, R43). -/

namespace Sys2Proof.Machine

/-- What an address that is not listed reads as. The spec gives RAM no contents at power-up (93_implementation_defined.md
U3). DESIGN CHOICE 0x00 (log 4, unsafe). -/
def Memory.unlisted : Byte := 0

/-- The byte at an address. -/
def Memory.read (m : Memory) (x : Nat) : Byte :=
  match m with
  | [] => Memory.unlisted
  | (y, v) :: rest => if x = y then v else Memory.read rest x

/-- Every entry but those of address `x`. -/
def Memory.erase (m : Memory) (x : Nat) : Memory :=
  match m with
  | [] => []
  | (y, w) :: rest => if x = y then Memory.erase rest x else (y, w) :: Memory.erase rest x

/-- An entry put before the first higher address. -/
def Memory.insert (m : Memory) (x : Nat) (v : Byte) : Memory :=
  match m with
  | [] => [(x, v)]
  | (y, w) :: rest => if x < y then (x, v) :: (y, w) :: rest else (y, w) :: Memory.insert rest x v

/-- Set the byte at an address, keeping the canonical form: writing what an unlisted address reads as removes the entry. -/
def Memory.write (m : Memory) (x : Nat) (v : Byte) : Memory :=
  if v = Memory.unlisted then Memory.erase m x else Memory.insert (Memory.erase m x) x v

/-- The canonical form of the part of memory from address `lo` on: addresses rising, below 65536, no entry equal to what
an unlisted address reads as. -/
def Memory.wfFrom (lo : Nat) (m : Memory) : Bool :=
  match m with
  | [] => true
  | (y, v) :: rest => decide (lo ≤ y) && decide (y < 65536) && decide (v ≠ Memory.unlisted) && Memory.wfFrom (y + 1) rest

/-- The canonical form of a memory. -/
def Memory.wf (m : Memory) : Bool := Memory.wfFrom 0 m

end Sys2Proof.Machine
end

