-- ==== Sys2Proof/Machine/Ops.lean ====
section
/-! DEFINITION. The shared operations: one memory access, the stack helpers, the I/O space, the end of an instruction,
entering an interrupt handler and returning from one, and RESET IN. -/

namespace Sys2Proof.Machine

/-- The kind of the first region that holds address `x`; an address in no region is RAM (20_memory.md R50). -/
def kindIn (regions : List Region) (x : Nat) : MemKind :=
  match regions with
  | [] => .ram
  | r :: rest => if r.first ≤ x ∧ x ≤ r.last then r.kind else kindIn rest x

/-- What the platform has at an address (R50). -/
def State.kindAt (s : State) (addr : Word) : MemKind := kindIn s.platform.memMap addr.toNat

/-- The byte memory holds at an address, whatever the platform shows there. -/
def State.peek (s : State) (addr : Word) : Byte := Memory.read s.mem addr.toNat

/-- `MemRead(addr, 1)` (20_memory.md R42, R50): the byte memory holds in RAM and ROM; one oracle draw on a device or
where nothing is (R55). -/
def State.readByte (s : State) (addr : Word) : Byte × State :=
  match s.kindAt addr with
  | .ram => (s.peek addr, s)
  | .rom => (s.peek addr, s)
  | .device => (Config.deviceByte s.draws addr, { s with draws := s.draws + 1 })
  | .absent => (Config.absentByte s.draws addr, { s with draws := s.draws + 1 })

/-- `MemWrite(addr, 1, v)` (R43, R50): RAM takes the byte, a device makes it an output event, ROM and absent addresses
drop it. -/
def State.writeByte (s : State) (addr : Word) (v : Byte) : State :=
  match s.kindAt addr with
  | .ram => { s with mem := Memory.write s.mem addr.toNat v }
  | .rom => s
  | .device => { s with outputs := s.outputs ++ [.device addr v] }
  | .absent => s

/-- Two bytes from consecutive addresses, the lower address first (R49), as a 16-bit value with the low byte at the lower
address (R41). -/
def State.readWord (s : State) (addr : Word) : Word × State :=
  let lo := s.readByte addr
  let hi := lo.2.readByte (addr + 1)
  (joinBytes hi.1 lo.1, hi.2)

/-- `push16(v)` (R45): the high byte at SP - 1 first, then the low byte at SP - 2. -/
def State.push16 (s : State) (v : Word) : State :=
  let s1 := s.writeByte (s.sp - 1) (hiByte v)
  let s2 := s1.writeByte (s.sp - 2) (loByte v)
  { s2 with sp := s.sp - 2 }

/-- `pop16()` (R46): the low byte from SP, then the high byte from SP + 1. -/
def State.pop16 (s : State) : Word × State :=
  let r := s.readWord s.sp
  (r.1, { r.2 with sp := s.sp + 2 })

/-- `IoRead(port)` (R47): one oracle draw. -/
def State.ioRead (s : State) (port : Byte) : Byte × State :=
  (Config.ioByte s.draws port, { s with draws := s.draws + 1 })

/-- `IoWrite(port, v)` (R47): an output event. -/
def State.ioWrite (s : State) (port : Byte) (v : Byte) : State :=
  { s with outputs := s.outputs ++ [.port port v] }

/-- `PinSID()` (10_state.md R31): one oracle draw (20_memory.md R55). -/
def State.readSid (s : State) : Bool × State :=
  (Config.sidBit s.draws, { s with draws := s.draws + 1 })

/-- The end of an instruction of `len` bytes that does not transfer control: `pc <- next` (00_scope.md R4,
10_state.md R15). -/
def done (len : Word) (s : State) : Host.Outcome State Fault Refusal :=
  .next { s with pc := s.pc + len }

/-- Go on with `k` when the outcome is a next state. -/
def andThen (o : Host.Outcome State Fault Refusal) (k : State → Host.Outcome State Fault Refusal) :
    Host.Outcome State Fault Refusal :=
  match o with
  | .next s => k s
  | .fault r => .fault r
  | .refused r => .refused r

/-- The interrupt sources (60_exceptions.md R310). -/
inductive IntSource where
  | trap | rst75 | rst65 | rst55 | intr
  deriving DecidableEq, Repr

/-- Taking an interrupt (60_exceptions.md R312; PRESUMED by the spec itself, log 6): the halt ends, IE is cleared, R75
too when RST 7.5 is the source, the address of the next instruction is pushed, and control goes to `target`. -/
def State.enterInterrupt (s : State) (src : IntSource) (target : Word) : State :=
  let s1 := { s with halted := false, ie := false, r75 := if src = IntSource.rst75 then false else s.r75 }
  { s1.push16 s.pc with pc := target }

/-- Returning, from a call as from an interrupt handler (43_branch.md R210, 60_exceptions.md R317): PC and SP only. -/
def State.returnFromStack (s : State) : State :=
  let r := s.pop16
  { r.2 with pc := r.1 }

/-- RESET IN on a running machine (70_reset_and_hazards.md R340, 60_exceptions.md R318): what `State.reset` states a
value for in the spec takes it, the registers, SP and the flags become free values (93_implementation_defined.md U2,
log 29), memory, the output trace, the platform and the pins to come are not changed. R340 has only PC, IE and halted for
the 8080A; that the other fields take their values there too is a DESIGN CHOICE (log 30). -/
def State.applyReset (s : State) : State :=
  { s with
    a := Config.resetByte s.draws 0
    b := Config.resetByte s.draws 1
    c := Config.resetByte s.draws 2
    d := Config.resetByte s.draws 3
    e := Config.resetByte s.draws 4
    h := Config.resetByte s.draws 5
    l := Config.resetByte s.draws 6
    sp := Config.resetWord s.draws
    pc := 0x0000
    flags :=
      { z := Config.resetFlag s.draws 0
        s := Config.resetFlag s.draws 1
        p := Config.resetFlag s.draws 2
        cy := Config.resetFlag s.draws 3
        ac := Config.resetFlag s.draws 4 }
    ie := false
    m55 := true
    m65 := true
    m75 := true
    r75 := false
    sod := false
    halted := false
    eiDelay := false
    draws := s.draws + 1
    resetIn := false }

end Sys2Proof.Machine
end

