-- ==== Sys2Proof/Machine/Operands.lean ====
section
/-! DEFINITION. The operand forms: a general register, a register pair or SP, a pair of PUSH and POP, and M
(10_state.md R10 to R13, R16, R26). -/

namespace Sys2Proof.Machine

/-- `x[r]` (R10). -/
def State.reg (s : State) (r : Reg) : Byte :=
  match r with
  | .a => s.a
  | .b => s.b
  | .c => s.c
  | .d => s.d
  | .e => s.e
  | .h => s.h
  | .l => s.l

/-- `x[r] <- v` (R10). -/
def State.setReg (s : State) (r : Reg) (v : Byte) : State :=
  match r with
  | .a => { s with a := v }
  | .b => { s with b := v }
  | .c => { s with c := v }
  | .d => { s with d := v }
  | .e => { s with e := v }
  | .h => { s with h := v }
  | .l => { s with l := v }

/-- HL (R12). -/
def State.hl (s : State) : Word := joinBytes s.h s.l

/-- A pair, the first-named register the high byte, or SP (R12, R13). -/
def State.pair (s : State) (rp : Pair) : Word :=
  match rp with
  | .b => joinBytes s.b s.c
  | .d => joinBytes s.d s.e
  | .h => s.hl
  | .sp => s.sp

/-- Writing a pair writes its two registers (R12). -/
def State.setPair (s : State) (rp : Pair) (v : Word) : State :=
  match rp with
  | .b => { s with b := hiByte v, c := loByte v }
  | .d => { s with d := hiByte v, e := loByte v }
  | .h => { s with h := hiByte v, l := loByte v }
  | .sp => { s with sp := v }

/-- The value PUSH stores: a pair, or PSW, which is A and the flag byte F (R26). -/
def State.stackPair (s : State) (rp : StackPair) : Word :=
  match rp with
  | .b => joinBytes s.b s.c
  | .d => joinBytes s.d s.e
  | .h => s.hl
  | .psw => joinBytes s.a s.flags.toByte

/-- What POP loads: a pair, or A and the five flags (R26). -/
def State.setStackPair (s : State) (rp : StackPair) (v : Word) : State :=
  match rp with
  | .b => { s with b := hiByte v, c := loByte v }
  | .d => { s with d := hiByte v, e := loByte v }
  | .h => { s with h := hiByte v, l := loByte v }
  | .psw => { s with a := hiByte v, flags := Flags.ofByte (loByte v) }

/-- A read of M: the memory byte at HL (R16). -/
def State.readM (s : State) : Byte × State := s.readByte s.hl

/-- A write of M (R16). -/
def State.writeM (s : State) (v : Byte) : State := s.writeByte s.hl v

/-- A one-byte instruction whose operand is M: read the byte at HL, then do `f` with it. -/
def viaM (f : Byte → State → State) (s : State) : Host.Outcome State Fault Refusal :=
  let m := s.readM
  done 1 (f m.1 m.2)

end Sys2Proof.Machine
end

