-- ==== Sys2Proof/Machine/Arithmetic.lean ====
section
/-! DEFINITION. The arithmetic instructions (41_arithmetic.md R130 to R159). Results are reduced modulo 256
or 65536; INR and DCR leave CY, DAD writes CY alone, INX and DCX write no flag. -/

namespace Sys2Proof.Machine

/-- A <- A + v + c with all five flags (R130 to R135). -/
def addA (v : Byte) (c : Bool) (s : State) : State :=
  let x := add8 s.a v c
  { s with a := x.r, flags := s.flags.ofSum x }

/-- A <- A - v - c with all five flags (R153 to R158). -/
def subA (v : Byte) (c : Bool) (s : State) : State :=
  let x := sub8 s.a v c
  { s with a := x.r, flags := s.flags.ofSum x }

/-- INR r (R141). -/
def incReg (r : Reg) (s : State) : State :=
  let x := add8 (s.reg r) 1 false
  { s.setReg r x.r with flags := s.flags.ofStep x }

/-- DCR r (R142). -/
def decReg (r : Reg) (s : State) : State :=
  let x := sub8 (s.reg r) 1 false
  { s.setReg r x.r with flags := s.flags.ofStep x }

/-- INR M (R143): read, then write the same address. -/
def incM (s : State) : State :=
  let m := s.readM
  let x := add8 m.1 1 false
  { m.2.writeM x.r with flags := s.flags.ofStep x }

/-- DCR M (R144). -/
def decM (s : State) : State :=
  let m := s.readM
  let x := sub8 m.1 1 false
  { m.2.writeM x.r with flags := s.flags.ofStep x }

/-- HL <- HL + v, CY the carry out of bit 15 (R137 to R140). -/
def addHL (v : Word) (s : State) : State :=
  let t := s.hl.toNat + v.toNat
  { s.setPair .h (BitVec.ofNat 16 t) with flags := { s.flags with cy := decide (t > 65535) } }

/-- INX B (R145). -/
def execInxB (s : State) : Host.Outcome State Fault Refusal :=
  done 1 (s.setPair .b (s.pair .b + 1))

/-- INR B (R141). -/
def execInrB (s : State) : Host.Outcome State Fault Refusal :=
  done 1 (incReg .b s)

/-- DCR B (R142). -/
def execDcrB (s : State) : Host.Outcome State Fault Refusal :=
  done 1 (decReg .b s)

/-- DAD B (R138). -/
def execDadB (s : State) : Host.Outcome State Fault Refusal :=
  done 1 (addHL (s.pair .b) s)

/-- DCX B (R149). -/
def execDcxB (s : State) : Host.Outcome State Fault Refusal :=
  done 1 (s.setPair .b (s.pair .b - 1))

/-- INR C (R141). -/
def execInrC (s : State) : Host.Outcome State Fault Refusal :=
  done 1 (incReg .c s)

/-- DCR C (R142). -/
def execDcrC (s : State) : Host.Outcome State Fault Refusal :=
  done 1 (decReg .c s)

/-- INX D (R147). -/
def execInxD (s : State) : Host.Outcome State Fault Refusal :=
  done 1 (s.setPair .d (s.pair .d + 1))

/-- INR D (R141). -/
def execInrD (s : State) : Host.Outcome State Fault Refusal :=
  done 1 (incReg .d s)

/-- DCR D (R142). -/
def execDcrD (s : State) : Host.Outcome State Fault Refusal :=
  done 1 (decReg .d s)

/-- DAD D (R140). -/
def execDadD (s : State) : Host.Outcome State Fault Refusal :=
  done 1 (addHL (s.pair .d) s)

/-- DCX D (R151). -/
def execDcxD (s : State) : Host.Outcome State Fault Refusal :=
  done 1 (s.setPair .d (s.pair .d - 1))

/-- INR E (R141). -/
def execInrE (s : State) : Host.Outcome State Fault Refusal :=
  done 1 (incReg .e s)

/-- DCR E (R142). -/
def execDcrE (s : State) : Host.Outcome State Fault Refusal :=
  done 1 (decReg .e s)

/-- INX H (R146). -/
def execInxH (s : State) : Host.Outcome State Fault Refusal :=
  done 1 (s.setPair .h (s.pair .h + 1))

/-- INR H (R141). -/
def execInrH (s : State) : Host.Outcome State Fault Refusal :=
  done 1 (incReg .h s)

/-- DCR H (R142). -/
def execDcrH (s : State) : Host.Outcome State Fault Refusal :=
  done 1 (decReg .h s)

/-- DAA (R136). -/
def execDaa (s : State) : Host.Outcome State Fault Refusal :=
  let r := decimalAdjust s.a s.flags
  done 1 { s with a := r.1, flags := r.2 }

/-- DAD H (R139). -/
def execDadH (s : State) : Host.Outcome State Fault Refusal :=
  done 1 (addHL (s.pair .h) s)

/-- DCX H (R150). -/
def execDcxH (s : State) : Host.Outcome State Fault Refusal :=
  done 1 (s.setPair .h (s.pair .h - 1))

/-- INR L (R141). -/
def execInrL (s : State) : Host.Outcome State Fault Refusal :=
  done 1 (incReg .l s)

/-- DCR L (R142). -/
def execDcrL (s : State) : Host.Outcome State Fault Refusal :=
  done 1 (decReg .l s)

/-- INX SP (R148). -/
def execInxSp (s : State) : Host.Outcome State Fault Refusal :=
  done 1 (s.setPair .sp (s.pair .sp + 1))

/-- INR M (R143). -/
def execInrM (s : State) : Host.Outcome State Fault Refusal :=
  done 1 (incM s)

/-- DCR M (R144). -/
def execDcrM (s : State) : Host.Outcome State Fault Refusal :=
  done 1 (decM s)

/-- DAD SP (R137). -/
def execDadSp (s : State) : Host.Outcome State Fault Refusal :=
  done 1 (addHL (s.pair .sp) s)

/-- DCX SP (R152). -/
def execDcxSp (s : State) : Host.Outcome State Fault Refusal :=
  done 1 (s.setPair .sp (s.pair .sp - 1))

/-- INR A (R141). -/
def execInrA (s : State) : Host.Outcome State Fault Refusal :=
  done 1 (incReg .a s)

/-- DCR A (R142). -/
def execDcrA (s : State) : Host.Outcome State Fault Refusal :=
  done 1 (decReg .a s)

/-- ADD B (R133). -/
def execAddB (s : State) : Host.Outcome State Fault Refusal :=
  done 1 (addA (s.reg .b) false s)

/-- ADD C (R133). -/
def execAddC (s : State) : Host.Outcome State Fault Refusal :=
  done 1 (addA (s.reg .c) false s)

/-- ADD D (R133). -/
def execAddD (s : State) : Host.Outcome State Fault Refusal :=
  done 1 (addA (s.reg .d) false s)

/-- ADD E (R133). -/
def execAddE (s : State) : Host.Outcome State Fault Refusal :=
  done 1 (addA (s.reg .e) false s)

/-- ADD H (R133). -/
def execAddH (s : State) : Host.Outcome State Fault Refusal :=
  done 1 (addA (s.reg .h) false s)

/-- ADD L (R133). -/
def execAddL (s : State) : Host.Outcome State Fault Refusal :=
  done 1 (addA (s.reg .l) false s)

/-- ADD M (R134). -/
def execAddM (s : State) : Host.Outcome State Fault Refusal :=
  viaM (fun v t => addA v false t) s

/-- ADD A (R133). -/
def execAddA (s : State) : Host.Outcome State Fault Refusal :=
  done 1 (addA (s.reg .a) false s)

/-- ADC B (R131). -/
def execAdcB (s : State) : Host.Outcome State Fault Refusal :=
  done 1 (addA (s.reg .b) s.flags.cy s)

/-- ADC C (R131). -/
def execAdcC (s : State) : Host.Outcome State Fault Refusal :=
  done 1 (addA (s.reg .c) s.flags.cy s)

/-- ADC D (R131). -/
def execAdcD (s : State) : Host.Outcome State Fault Refusal :=
  done 1 (addA (s.reg .d) s.flags.cy s)

/-- ADC E (R131). -/
def execAdcE (s : State) : Host.Outcome State Fault Refusal :=
  done 1 (addA (s.reg .e) s.flags.cy s)

/-- ADC H (R131). -/
def execAdcH (s : State) : Host.Outcome State Fault Refusal :=
  done 1 (addA (s.reg .h) s.flags.cy s)

/-- ADC L (R131). -/
def execAdcL (s : State) : Host.Outcome State Fault Refusal :=
  done 1 (addA (s.reg .l) s.flags.cy s)

/-- ADC M (R132). -/
def execAdcM (s : State) : Host.Outcome State Fault Refusal :=
  viaM (fun v t => addA v t.flags.cy t) s

/-- ADC A (R131). -/
def execAdcA (s : State) : Host.Outcome State Fault Refusal :=
  done 1 (addA (s.reg .a) s.flags.cy s)

/-- SUB B (R155). -/
def execSubB (s : State) : Host.Outcome State Fault Refusal :=
  done 1 (subA (s.reg .b) false s)

/-- SUB C (R155). -/
def execSubC (s : State) : Host.Outcome State Fault Refusal :=
  done 1 (subA (s.reg .c) false s)

/-- SUB D (R155). -/
def execSubD (s : State) : Host.Outcome State Fault Refusal :=
  done 1 (subA (s.reg .d) false s)

/-- SUB E (R155). -/
def execSubE (s : State) : Host.Outcome State Fault Refusal :=
  done 1 (subA (s.reg .e) false s)

/-- SUB H (R155). -/
def execSubH (s : State) : Host.Outcome State Fault Refusal :=
  done 1 (subA (s.reg .h) false s)

/-- SUB L (R155). -/
def execSubL (s : State) : Host.Outcome State Fault Refusal :=
  done 1 (subA (s.reg .l) false s)

/-- SUB M (R157). -/
def execSubM (s : State) : Host.Outcome State Fault Refusal :=
  viaM (fun v t => subA v false t) s

/-- SUB A (R155). -/
def execSubA (s : State) : Host.Outcome State Fault Refusal :=
  done 1 (subA (s.reg .a) false s)

/-- SBB B (R156). -/
def execSbbB (s : State) : Host.Outcome State Fault Refusal :=
  done 1 (subA (s.reg .b) s.flags.cy s)

/-- SBB C (R156). -/
def execSbbC (s : State) : Host.Outcome State Fault Refusal :=
  done 1 (subA (s.reg .c) s.flags.cy s)

/-- SBB D (R156). -/
def execSbbD (s : State) : Host.Outcome State Fault Refusal :=
  done 1 (subA (s.reg .d) s.flags.cy s)

/-- SBB E (R156). -/
def execSbbE (s : State) : Host.Outcome State Fault Refusal :=
  done 1 (subA (s.reg .e) s.flags.cy s)

/-- SBB H (R156). -/
def execSbbH (s : State) : Host.Outcome State Fault Refusal :=
  done 1 (subA (s.reg .h) s.flags.cy s)

/-- SBB L (R156). -/
def execSbbL (s : State) : Host.Outcome State Fault Refusal :=
  done 1 (subA (s.reg .l) s.flags.cy s)

/-- SBB M (R158). -/
def execSbbM (s : State) : Host.Outcome State Fault Refusal :=
  viaM (fun v t => subA v t.flags.cy t) s

/-- SBB A (R156). -/
def execSbbA (s : State) : Host.Outcome State Fault Refusal :=
  done 1 (subA (s.reg .a) s.flags.cy s)

/-- ADI (R135). -/
def execAdi (d8 : Byte) (s : State) : Host.Outcome State Fault Refusal :=
  done 2 (addA d8 false s)

/-- ACI (R130). -/
def execAci (d8 : Byte) (s : State) : Host.Outcome State Fault Refusal :=
  done 2 (addA d8 s.flags.cy s)

/-- SUI (R153). -/
def execSui (d8 : Byte) (s : State) : Host.Outcome State Fault Refusal :=
  done 2 (subA d8 false s)

/-- SBI (R154). -/
def execSbi (d8 : Byte) (s : State) : Host.Outcome State Fault Refusal :=
  done 2 (subA d8 s.flags.cy s)

end Sys2Proof.Machine
end

