-- ==== Sys2Proof/Machine/Branch.lean ====
section
/-! DEFINITION. The branch instructions (43_branch.md R200 to R230). All instruction bytes have been
fetched before; a call pushes the address of the instruction after itself (log 17); no flag changes. -/

namespace Sys2Proof.Machine

/-- JMP and Jcc: 3 bytes (R220 to R228). -/
def jumpIf (taken : Bool) (addr : Word) (s : State) : Host.Outcome State Fault Refusal :=
  if taken then .next { s with pc := addr } else done 3 s

/-- CALL and Ccc: 3 bytes (R201 to R209). -/
def callIf (taken : Bool) (addr : Word) (s : State) : Host.Outcome State Fault Refusal :=
  if taken then .next { s.push16 (s.pc + 3) with pc := addr } else done 3 s

/-- RET and Rcc: 1 byte (R210 to R218). -/
def returnIf (taken : Bool) (s : State) : Host.Outcome State Fault Refusal :=
  if taken then .next s.returnFromStack else done 1 s

/-- The target of RST n, 8 * n (R219, log 17). -/
def restartTarget (n : Fin 8) : Word := BitVec.ofNat 16 (8 * n.val)

/-- RST n (R219). -/
def restart (n : Fin 8) (s : State) : Host.Outcome State Fault Refusal :=
  .next { s.push16 (s.pc + 1) with pc := restartTarget n }

/-- RNZ (R214). -/
def execRnz (s : State) : Host.Outcome State Fault Refusal :=
  returnIf (s.flags.holds .nz) s

/-- JNZ (R224). -/
def execJnz (addr : Word) (s : State) : Host.Outcome State Fault Refusal :=
  jumpIf (s.flags.holds .nz) addr s

/-- JMP (R220). -/
def execJmp (addr : Word) (s : State) : Host.Outcome State Fault Refusal :=
  jumpIf true addr s

/-- CNZ (R205). -/
def execCnz (addr : Word) (s : State) : Host.Outcome State Fault Refusal :=
  callIf (s.flags.holds .nz) addr s

/-- RST 0 (R219). -/
def execRst0 (s : State) : Host.Outcome State Fault Refusal :=
  restart 0 s

/-- RZ (R213). -/
def execRz (s : State) : Host.Outcome State Fault Refusal :=
  returnIf (s.flags.holds .z) s

/-- RET (R210). -/
def execRet (s : State) : Host.Outcome State Fault Refusal :=
  returnIf true s

/-- JZ (R223). -/
def execJz (addr : Word) (s : State) : Host.Outcome State Fault Refusal :=
  jumpIf (s.flags.holds .z) addr s

/-- CZ (R204). -/
def execCz (addr : Word) (s : State) : Host.Outcome State Fault Refusal :=
  callIf (s.flags.holds .z) addr s

/-- CALL (R201). -/
def execCall (addr : Word) (s : State) : Host.Outcome State Fault Refusal :=
  callIf true addr s

/-- RST 1 (R219). -/
def execRst1 (s : State) : Host.Outcome State Fault Refusal :=
  restart 1 s

/-- RNC (R212). -/
def execRnc (s : State) : Host.Outcome State Fault Refusal :=
  returnIf (s.flags.holds .nc) s

/-- JNC (R222). -/
def execJnc (addr : Word) (s : State) : Host.Outcome State Fault Refusal :=
  jumpIf (s.flags.holds .nc) addr s

/-- CNC (R203). -/
def execCnc (addr : Word) (s : State) : Host.Outcome State Fault Refusal :=
  callIf (s.flags.holds .nc) addr s

/-- RST 2 (R219). -/
def execRst2 (s : State) : Host.Outcome State Fault Refusal :=
  restart 2 s

/-- RC (R211). -/
def execRc (s : State) : Host.Outcome State Fault Refusal :=
  returnIf (s.flags.holds .c) s

/-- JC (R221). -/
def execJc (addr : Word) (s : State) : Host.Outcome State Fault Refusal :=
  jumpIf (s.flags.holds .c) addr s

/-- CC (R202). -/
def execCc (addr : Word) (s : State) : Host.Outcome State Fault Refusal :=
  callIf (s.flags.holds .c) addr s

/-- RST 3 (R219). -/
def execRst3 (s : State) : Host.Outcome State Fault Refusal :=
  restart 3 s

/-- RPO (R218). -/
def execRpo (s : State) : Host.Outcome State Fault Refusal :=
  returnIf (s.flags.holds .po) s

/-- JPO (R228). -/
def execJpo (addr : Word) (s : State) : Host.Outcome State Fault Refusal :=
  jumpIf (s.flags.holds .po) addr s

/-- CPO (R209). -/
def execCpo (addr : Word) (s : State) : Host.Outcome State Fault Refusal :=
  callIf (s.flags.holds .po) addr s

/-- RST 4 (R219). -/
def execRst4 (s : State) : Host.Outcome State Fault Refusal :=
  restart 4 s

/-- RPE (R217). -/
def execRpe (s : State) : Host.Outcome State Fault Refusal :=
  returnIf (s.flags.holds .pe) s

/-- PCHL (R229). -/
def execPchl (s : State) : Host.Outcome State Fault Refusal :=
  .next { s with pc := s.hl }

/-- JPE (R227). -/
def execJpe (addr : Word) (s : State) : Host.Outcome State Fault Refusal :=
  jumpIf (s.flags.holds .pe) addr s

/-- CPE (R208). -/
def execCpe (addr : Word) (s : State) : Host.Outcome State Fault Refusal :=
  callIf (s.flags.holds .pe) addr s

/-- RST 5 (R219). -/
def execRst5 (s : State) : Host.Outcome State Fault Refusal :=
  restart 5 s

/-- RP (R215). -/
def execRp (s : State) : Host.Outcome State Fault Refusal :=
  returnIf (s.flags.holds .p) s

/-- JP (R225). -/
def execJp (addr : Word) (s : State) : Host.Outcome State Fault Refusal :=
  jumpIf (s.flags.holds .p) addr s

/-- CP (R206). -/
def execCp (addr : Word) (s : State) : Host.Outcome State Fault Refusal :=
  callIf (s.flags.holds .p) addr s

/-- RST 6 (R219). -/
def execRst6 (s : State) : Host.Outcome State Fault Refusal :=
  restart 6 s

/-- RM (R216). -/
def execRm (s : State) : Host.Outcome State Fault Refusal :=
  returnIf (s.flags.holds .m) s

/-- JM (R226). -/
def execJm (addr : Word) (s : State) : Host.Outcome State Fault Refusal :=
  jumpIf (s.flags.holds .m) addr s

/-- CM (R207). -/
def execCm (addr : Word) (s : State) : Host.Outcome State Fault Refusal :=
  callIf (s.flags.holds .m) addr s

/-- RST 7 (R219). -/
def execRst7 (s : State) : Host.Outcome State Fault Refusal :=
  restart 7 s

end Sys2Proof.Machine
end

