-- ==== Sys2Proof/Machine/Control.lean ====
section
/-! DEFINITION. The machine control, input/output and stack instructions (44_machine_stack_io.md R240 to
R255, R258, R259). None changes a flag but POP PSW. -/

namespace Sys2Proof.Machine

/-- POP rp (R250 to R253): low byte from SP, high byte from SP + 1. -/
def popInto (rp : StackPair) (s : State) : Host.Outcome State Fault Refusal :=
  let r := s.pop16
  done 1 (r.2.setStackPair rp r.1)

/-- The next sample of the pins; with none left, nothing is requested (log 8). -/
def State.pinsNow (s : State) : PinSample := s.schedule.headD PinSample.quiet

/-- The level of RST 6.5 a RIM reads; under IRQ_MODEL none the pin reads as 0 (R258, 60_exceptions.md R309). -/
def State.pending65 (s : State) : Bool := decide (s.platform.irq = IrqModel.gk8085) && s.pinsNow.rimRst65

/-- The level of RST 5.5 a RIM reads. -/
def State.pending55 (s : State) : Bool := decide (s.platform.irq = IrqModel.gk8085) && s.pinsNow.rimRst55

/-- The byte RIM loads: SID : I7.5 : I6.5 : I5.5 : IE : M7.5 : M6.5 : M5.5 (R258). -/
def rimByte (s : State) (sid : Bool) : Byte :=
  BitVec.ofBool sid ++ BitVec.ofBool s.r75 ++ BitVec.ofBool s.pending65 ++ BitVec.ofBool s.pending55 ++
    BitVec.ofBool s.ie ++ BitVec.ofBool s.m75 ++ BitVec.ofBool s.m65 ++ BitVec.ofBool s.m55

/-- What SIM does with the byte in A: SOD : SOE : X : R7.5 : MSE : M7.5 : M6.5 : M5.5 (R259). -/
def setMasks (v : Byte) (s : State) : State :=
  { s with
    m75 := if v[3] then v[2] else s.m75
    m65 := if v[3] then v[1] else s.m65
    m55 := if v[3] then v[0] else s.m55
    r75 := if v[4] then false else s.r75
    sod := if v[6] then v[7] else s.sod }

/-- NOP (R243). -/
def execNop (s : State) : Host.Outcome State Fault Refusal :=
  done 1 s

/-- RIM (R258). -/
def execRim (s : State) : Host.Outcome State Fault Refusal :=
  let r := s.readSid
  done 1 { r.2 with a := rimByte s r.1 }

/-- SIM (R259). -/
def execSim (s : State) : Host.Outcome State Fault Refusal :=
  done 1 (setMasks s.a s)

/-- HLT (R242). -/
def execHlt (s : State) : Host.Outcome State Fault Refusal :=
  done 1 { s with halted := true }

/-- POP B (R251). -/
def execPopB (s : State) : Host.Outcome State Fault Refusal :=
  popInto .b s

/-- PUSH B (R247). -/
def execPushB (s : State) : Host.Outcome State Fault Refusal :=
  done 1 (s.push16 (s.stackPair .b))

/-- POP D (R252). -/
def execPopD (s : State) : Host.Outcome State Fault Refusal :=
  popInto .d s

/-- OUT (R245). -/
def execOutPort (port : Byte) (s : State) : Host.Outcome State Fault Refusal :=
  done 2 (s.ioWrite port s.a)

/-- PUSH D (R248). -/
def execPushD (s : State) : Host.Outcome State Fault Refusal :=
  done 1 (s.push16 (s.stackPair .d))

/-- IN (R244). -/
def execInPort (port : Byte) (s : State) : Host.Outcome State Fault Refusal :=
  let r := s.ioRead port
  done 2 (r.2.setReg .a r.1)

/-- POP H (R253). -/
def execPopH (s : State) : Host.Outcome State Fault Refusal :=
  popInto .h s

/-- XTHL (R255). -/
def execXthl (s : State) : Host.Outcome State Fault Refusal :=
  let r := s.readWord s.sp
  let s1 := (r.2.writeByte (s.sp + 1) s.h).writeByte s.sp s.l
  done 1 (s1.setPair .h r.1)

/-- PUSH H (R249). -/
def execPushH (s : State) : Host.Outcome State Fault Refusal :=
  done 1 (s.push16 (s.stackPair .h))

/-- POP PSW (R250). -/
def execPopPsw (s : State) : Host.Outcome State Fault Refusal :=
  popInto .psw s

/-- DI (R241). -/
def execDi (s : State) : Host.Outcome State Fault Refusal :=
  done 1 { s with ie := false, eiDelay := if s.platform.irq = IrqModel.gk8085 then false else s.eiDelay }

/-- PUSH PSW (R246). -/
def execPushPsw (s : State) : Host.Outcome State Fault Refusal :=
  done 1 (s.push16 (s.stackPair .psw))

/-- SPHL (R254). -/
def execSphl (s : State) : Host.Outcome State Fault Refusal :=
  done 1 { s with sp := s.hl }

/-- EI (R240). Under gk8085 it starts the delay of one instruction, on the 8080A variant too (DESIGN CHOICE, log 34). -/
def execEi (s : State) : Host.Outcome State Fault Refusal :=
  done 1 { s with ie := true, eiDelay := if s.platform.irq = IrqModel.gk8085 then true else s.eiDelay }

end Sys2Proof.Machine
end

