-- ==== Sys2Proof/Machine/DataTransfer.lean ====
section
/-! DEFINITION. The data transfer instructions (40_data_transfer.md R100 to R117). None writes a flag; a
16-bit transfer is two byte accesses in the order of 20_memory.md R49. -/

namespace Sys2Proof.Machine

/-- LDA and LDAX: A takes the byte at an address. -/
def loadA (len addr : Word) (s : State) : Host.Outcome State Fault Refusal :=
  let r := s.readByte addr
  done len (r.2.setReg .a r.1)

/-- STA and STAX: the byte at an address takes A. -/
def storeA (len addr : Word) (s : State) : Host.Outcome State Fault Refusal :=
  done len (s.writeByte addr s.a)

/-- MOV dst,src (R108). -/
def movReg (dst src : Reg) (s : State) : Host.Outcome State Fault Refusal :=
  done 1 (s.setReg dst (s.reg src))

/-- MOV dst,M (R109): the address is formed before the register is written. -/
def movLoad (dst : Reg) (s : State) : Host.Outcome State Fault Refusal :=
  let r := s.readM
  done 1 (r.2.setReg dst r.1)

/-- MOV M,src (R110). -/
def movStore (src : Reg) (s : State) : Host.Outcome State Fault Refusal :=
  done 1 (s.writeM (s.reg src))

/-- MVI dst,data (R111). -/
def mviReg (dst : Reg) (d8 : Byte) (s : State) : Host.Outcome State Fault Refusal :=
  done 2 (s.setReg dst d8)

/-- MVI M,data (R112). -/
def mviMem (d8 : Byte) (s : State) : Host.Outcome State Fault Refusal :=
  done 2 (s.writeM d8)

/-- LXI B (R104). -/
def execLxiB (d16 : Word) (s : State) : Host.Outcome State Fault Refusal :=
  done 3 (s.setPair .b d16)

/-- STAX B (R115). -/
def execStaxB (s : State) : Host.Outcome State Fault Refusal :=
  storeA 1 (s.pair .b) s

/-- MVI B (R111). -/
def execMviB (d8 : Byte) (s : State) : Host.Outcome State Fault Refusal :=
  mviReg .b d8 s

/-- LDAX B (R101). -/
def execLdaxB (s : State) : Host.Outcome State Fault Refusal :=
  loadA 1 (s.pair .b) s

/-- MVI C (R111). -/
def execMviC (d8 : Byte) (s : State) : Host.Outcome State Fault Refusal :=
  mviReg .c d8 s

/-- LXI D (R105). -/
def execLxiD (d16 : Word) (s : State) : Host.Outcome State Fault Refusal :=
  done 3 (s.setPair .d d16)

/-- STAX D (R116). -/
def execStaxD (s : State) : Host.Outcome State Fault Refusal :=
  storeA 1 (s.pair .d) s

/-- MVI D (R111). -/
def execMviD (d8 : Byte) (s : State) : Host.Outcome State Fault Refusal :=
  mviReg .d d8 s

/-- LDAX D (R102). -/
def execLdaxD (s : State) : Host.Outcome State Fault Refusal :=
  loadA 1 (s.pair .d) s

/-- MVI E (R111). -/
def execMviE (d8 : Byte) (s : State) : Host.Outcome State Fault Refusal :=
  mviReg .e d8 s

/-- LXI H (R106). -/
def execLxiH (d16 : Word) (s : State) : Host.Outcome State Fault Refusal :=
  done 3 (s.setPair .h d16)

/-- SHLD (R113). -/
def execShld (addr : Word) (s : State) : Host.Outcome State Fault Refusal :=
  done 3 ((s.writeByte addr s.l).writeByte (addr + 1) s.h)

/-- MVI H (R111). -/
def execMviH (d8 : Byte) (s : State) : Host.Outcome State Fault Refusal :=
  mviReg .h d8 s

/-- LHLD (R103). -/
def execLhld (addr : Word) (s : State) : Host.Outcome State Fault Refusal :=
  let r := s.readWord addr
  done 3 (r.2.setPair .h r.1)

/-- MVI L (R111). -/
def execMviL (d8 : Byte) (s : State) : Host.Outcome State Fault Refusal :=
  mviReg .l d8 s

/-- LXI SP (R107). -/
def execLxiSp (d16 : Word) (s : State) : Host.Outcome State Fault Refusal :=
  done 3 (s.setPair .sp d16)

/-- STA (R114). -/
def execSta (addr : Word) (s : State) : Host.Outcome State Fault Refusal :=
  storeA 3 addr s

/-- MVI M (R112). -/
def execMviM (d8 : Byte) (s : State) : Host.Outcome State Fault Refusal :=
  mviMem d8 s

/-- LDA (R100). -/
def execLda (addr : Word) (s : State) : Host.Outcome State Fault Refusal :=
  loadA 3 addr s

/-- MVI A (R111). -/
def execMviA (d8 : Byte) (s : State) : Host.Outcome State Fault Refusal :=
  mviReg .a d8 s

/-- MOV B,B (R108). -/
def execMovBB (s : State) : Host.Outcome State Fault Refusal :=
  movReg .b .b s

/-- MOV B,C (R108). -/
def execMovBC (s : State) : Host.Outcome State Fault Refusal :=
  movReg .b .c s

/-- MOV B,D (R108). -/
def execMovBD (s : State) : Host.Outcome State Fault Refusal :=
  movReg .b .d s

/-- MOV B,E (R108). -/
def execMovBE (s : State) : Host.Outcome State Fault Refusal :=
  movReg .b .e s

/-- MOV B,H (R108). -/
def execMovBH (s : State) : Host.Outcome State Fault Refusal :=
  movReg .b .h s

/-- MOV B,L (R108). -/
def execMovBL (s : State) : Host.Outcome State Fault Refusal :=
  movReg .b .l s

/-- MOV B,M (R109). -/
def execMovBM (s : State) : Host.Outcome State Fault Refusal :=
  movLoad .b s

/-- MOV B,A (R108). -/
def execMovBA (s : State) : Host.Outcome State Fault Refusal :=
  movReg .b .a s

/-- MOV C,B (R108). -/
def execMovCB (s : State) : Host.Outcome State Fault Refusal :=
  movReg .c .b s

/-- MOV C,C (R108). -/
def execMovCC (s : State) : Host.Outcome State Fault Refusal :=
  movReg .c .c s

/-- MOV C,D (R108). -/
def execMovCD (s : State) : Host.Outcome State Fault Refusal :=
  movReg .c .d s

/-- MOV C,E (R108). -/
def execMovCE (s : State) : Host.Outcome State Fault Refusal :=
  movReg .c .e s

/-- MOV C,H (R108). -/
def execMovCH (s : State) : Host.Outcome State Fault Refusal :=
  movReg .c .h s

/-- MOV C,L (R108). -/
def execMovCL (s : State) : Host.Outcome State Fault Refusal :=
  movReg .c .l s

/-- MOV C,M (R109). -/
def execMovCM (s : State) : Host.Outcome State Fault Refusal :=
  movLoad .c s

/-- MOV C,A (R108). -/
def execMovCA (s : State) : Host.Outcome State Fault Refusal :=
  movReg .c .a s

/-- MOV D,B (R108). -/
def execMovDB (s : State) : Host.Outcome State Fault Refusal :=
  movReg .d .b s

/-- MOV D,C (R108). -/
def execMovDC (s : State) : Host.Outcome State Fault Refusal :=
  movReg .d .c s

/-- MOV D,D (R108). -/
def execMovDD (s : State) : Host.Outcome State Fault Refusal :=
  movReg .d .d s

/-- MOV D,E (R108). -/
def execMovDE (s : State) : Host.Outcome State Fault Refusal :=
  movReg .d .e s

/-- MOV D,H (R108). -/
def execMovDH (s : State) : Host.Outcome State Fault Refusal :=
  movReg .d .h s

/-- MOV D,L (R108). -/
def execMovDL (s : State) : Host.Outcome State Fault Refusal :=
  movReg .d .l s

/-- MOV D,M (R109). -/
def execMovDM (s : State) : Host.Outcome State Fault Refusal :=
  movLoad .d s

/-- MOV D,A (R108). -/
def execMovDA (s : State) : Host.Outcome State Fault Refusal :=
  movReg .d .a s

/-- MOV E,B (R108). -/
def execMovEB (s : State) : Host.Outcome State Fault Refusal :=
  movReg .e .b s

/-- MOV E,C (R108). -/
def execMovEC (s : State) : Host.Outcome State Fault Refusal :=
  movReg .e .c s

/-- MOV E,D (R108). -/
def execMovED (s : State) : Host.Outcome State Fault Refusal :=
  movReg .e .d s

/-- MOV E,E (R108). -/
def execMovEE (s : State) : Host.Outcome State Fault Refusal :=
  movReg .e .e s

/-- MOV E,H (R108). -/
def execMovEH (s : State) : Host.Outcome State Fault Refusal :=
  movReg .e .h s

/-- MOV E,L (R108). -/
def execMovEL (s : State) : Host.Outcome State Fault Refusal :=
  movReg .e .l s

/-- MOV E,M (R109). -/
def execMovEM (s : State) : Host.Outcome State Fault Refusal :=
  movLoad .e s

/-- MOV E,A (R108). -/
def execMovEA (s : State) : Host.Outcome State Fault Refusal :=
  movReg .e .a s

/-- MOV H,B (R108). -/
def execMovHB (s : State) : Host.Outcome State Fault Refusal :=
  movReg .h .b s

/-- MOV H,C (R108). -/
def execMovHC (s : State) : Host.Outcome State Fault Refusal :=
  movReg .h .c s

/-- MOV H,D (R108). -/
def execMovHD (s : State) : Host.Outcome State Fault Refusal :=
  movReg .h .d s

/-- MOV H,E (R108). -/
def execMovHE (s : State) : Host.Outcome State Fault Refusal :=
  movReg .h .e s

/-- MOV H,H (R108). -/
def execMovHH (s : State) : Host.Outcome State Fault Refusal :=
  movReg .h .h s

/-- MOV H,L (R108). -/
def execMovHL (s : State) : Host.Outcome State Fault Refusal :=
  movReg .h .l s

/-- MOV H,M (R109). -/
def execMovHM (s : State) : Host.Outcome State Fault Refusal :=
  movLoad .h s

/-- MOV H,A (R108). -/
def execMovHA (s : State) : Host.Outcome State Fault Refusal :=
  movReg .h .a s

/-- MOV L,B (R108). -/
def execMovLB (s : State) : Host.Outcome State Fault Refusal :=
  movReg .l .b s

/-- MOV L,C (R108). -/
def execMovLC (s : State) : Host.Outcome State Fault Refusal :=
  movReg .l .c s

/-- MOV L,D (R108). -/
def execMovLD (s : State) : Host.Outcome State Fault Refusal :=
  movReg .l .d s

/-- MOV L,E (R108). -/
def execMovLE (s : State) : Host.Outcome State Fault Refusal :=
  movReg .l .e s

/-- MOV L,H (R108). -/
def execMovLH (s : State) : Host.Outcome State Fault Refusal :=
  movReg .l .h s

/-- MOV L,L (R108). -/
def execMovLL (s : State) : Host.Outcome State Fault Refusal :=
  movReg .l .l s

/-- MOV L,M (R109). -/
def execMovLM (s : State) : Host.Outcome State Fault Refusal :=
  movLoad .l s

/-- MOV L,A (R108). -/
def execMovLA (s : State) : Host.Outcome State Fault Refusal :=
  movReg .l .a s

/-- MOV M,B (R110). -/
def execMovMB (s : State) : Host.Outcome State Fault Refusal :=
  movStore .b s

/-- MOV M,C (R110). -/
def execMovMC (s : State) : Host.Outcome State Fault Refusal :=
  movStore .c s

/-- MOV M,D (R110). -/
def execMovMD (s : State) : Host.Outcome State Fault Refusal :=
  movStore .d s

/-- MOV M,E (R110). -/
def execMovME (s : State) : Host.Outcome State Fault Refusal :=
  movStore .e s

/-- MOV M,H (R110). -/
def execMovMH (s : State) : Host.Outcome State Fault Refusal :=
  movStore .h s

/-- MOV M,L (R110). -/
def execMovML (s : State) : Host.Outcome State Fault Refusal :=
  movStore .l s

/-- MOV M,A (R110). -/
def execMovMA (s : State) : Host.Outcome State Fault Refusal :=
  movStore .a s

/-- MOV A,B (R108). -/
def execMovAB (s : State) : Host.Outcome State Fault Refusal :=
  movReg .a .b s

/-- MOV A,C (R108). -/
def execMovAC (s : State) : Host.Outcome State Fault Refusal :=
  movReg .a .c s

/-- MOV A,D (R108). -/
def execMovAD (s : State) : Host.Outcome State Fault Refusal :=
  movReg .a .d s

/-- MOV A,E (R108). -/
def execMovAE (s : State) : Host.Outcome State Fault Refusal :=
  movReg .a .e s

/-- MOV A,H (R108). -/
def execMovAH (s : State) : Host.Outcome State Fault Refusal :=
  movReg .a .h s

/-- MOV A,L (R108). -/
def execMovAL (s : State) : Host.Outcome State Fault Refusal :=
  movReg .a .l s

/-- MOV A,M (R109). -/
def execMovAM (s : State) : Host.Outcome State Fault Refusal :=
  movLoad .a s

/-- MOV A,A (R108). -/
def execMovAA (s : State) : Host.Outcome State Fault Refusal :=
  movReg .a .a s

/-- XCHG (R117). -/
def execXchg (s : State) : Host.Outcome State Fault Refusal :=
  done 1 { s with h := s.d, l := s.e, d := s.h, e := s.l }

end Sys2Proof.Machine
end

