-- ==== Sys2Proof/Machine/Logical.lean ====
section
/-! DEFINITION. The logical instructions, comparisons, complement, carry and rotate instructions
(42_logical.md R170 to R188). -/

namespace Sys2Proof.Machine

/-- A <- A and v; CY = 0, AC = 1 (R170, R174, R181). -/
def andA (v : Byte) (s : State) : State :=
  let r := s.a &&& v
  { s with a := r, flags := s.flags.ofLogic r true }

/-- A <- A exclusive or v; CY = 0, AC = 0 (R172, R175, R182). -/
def xorA (v : Byte) (s : State) : State :=
  let r := s.a ^^^ v
  { s with a := r, flags := s.flags.ofLogic r false }

/-- A <- A or v; CY = 0, AC = 0 (R171, R176, R183). -/
def orA (v : Byte) (s : State) : State :=
  let r := s.a ||| v
  { s with a := r, flags := s.flags.ofLogic r false }

/-- The flags of A - v; A unchanged (R173, R177, R184). -/
def cmpA (v : Byte) (s : State) : State :=
  { s with flags := s.flags.ofSum (sub8 s.a v false) }

/-- v[6:0]:b. -/
def rotateLeft (v : Byte) (b : Bool) : Byte := v.extractLsb' 0 7 ++ BitVec.ofBool b

/-- b:v[7:1]. -/
def rotateRight (v : Byte) (b : Bool) : Byte := BitVec.ofBool b ++ v.extractLsb' 1 7

/-- A rotate: A and CY only (R185 to R188). -/
def rotateA (r : Byte) (cy : Bool) (s : State) : Host.Outcome State Fault Refusal :=
  done 1 { s with a := r, flags := { s.flags with cy := cy } }

/-- RLC (R185). -/
def execRlc (s : State) : Host.Outcome State Fault Refusal :=
  rotateA (rotateLeft s.a s.a[7]) s.a[7] s

/-- RRC (R187). -/
def execRrc (s : State) : Host.Outcome State Fault Refusal :=
  rotateA (rotateRight s.a s.a[0]) s.a[0] s

/-- RAL (R188). -/
def execRal (s : State) : Host.Outcome State Fault Refusal :=
  rotateA (rotateLeft s.a s.flags.cy) s.a[7] s

/-- RAR (R186). -/
def execRar (s : State) : Host.Outcome State Fault Refusal :=
  rotateA (rotateRight s.a s.flags.cy) s.a[0] s

/-- CMA (R178). -/
def execCma (s : State) : Host.Outcome State Fault Refusal :=
  done 1 { s with a := ~~~s.a }

/-- STC (R180). -/
def execStc (s : State) : Host.Outcome State Fault Refusal :=
  done 1 { s with flags := { s.flags with cy := true } }

/-- CMC (R179). -/
def execCmc (s : State) : Host.Outcome State Fault Refusal :=
  done 1 { s with flags := { s.flags with cy := !s.flags.cy } }

/-- ANA B (R170). -/
def execAnaB (s : State) : Host.Outcome State Fault Refusal :=
  done 1 (andA (s.reg .b) s)

/-- ANA C (R170). -/
def execAnaC (s : State) : Host.Outcome State Fault Refusal :=
  done 1 (andA (s.reg .c) s)

/-- ANA D (R170). -/
def execAnaD (s : State) : Host.Outcome State Fault Refusal :=
  done 1 (andA (s.reg .d) s)

/-- ANA E (R170). -/
def execAnaE (s : State) : Host.Outcome State Fault Refusal :=
  done 1 (andA (s.reg .e) s)

/-- ANA H (R170). -/
def execAnaH (s : State) : Host.Outcome State Fault Refusal :=
  done 1 (andA (s.reg .h) s)

/-- ANA L (R170). -/
def execAnaL (s : State) : Host.Outcome State Fault Refusal :=
  done 1 (andA (s.reg .l) s)

/-- ANA M (R174). -/
def execAnaM (s : State) : Host.Outcome State Fault Refusal :=
  viaM (fun v t => andA v t) s

/-- ANA A (R170). -/
def execAnaA (s : State) : Host.Outcome State Fault Refusal :=
  done 1 (andA (s.reg .a) s)

/-- XRA B (R172). -/
def execXraB (s : State) : Host.Outcome State Fault Refusal :=
  done 1 (xorA (s.reg .b) s)

/-- XRA C (R172). -/
def execXraC (s : State) : Host.Outcome State Fault Refusal :=
  done 1 (xorA (s.reg .c) s)

/-- XRA D (R172). -/
def execXraD (s : State) : Host.Outcome State Fault Refusal :=
  done 1 (xorA (s.reg .d) s)

/-- XRA E (R172). -/
def execXraE (s : State) : Host.Outcome State Fault Refusal :=
  done 1 (xorA (s.reg .e) s)

/-- XRA H (R172). -/
def execXraH (s : State) : Host.Outcome State Fault Refusal :=
  done 1 (xorA (s.reg .h) s)

/-- XRA L (R172). -/
def execXraL (s : State) : Host.Outcome State Fault Refusal :=
  done 1 (xorA (s.reg .l) s)

/-- XRA M (R175). -/
def execXraM (s : State) : Host.Outcome State Fault Refusal :=
  viaM (fun v t => xorA v t) s

/-- XRA A (R172). -/
def execXraA (s : State) : Host.Outcome State Fault Refusal :=
  done 1 (xorA (s.reg .a) s)

/-- ORA B (R171). -/
def execOraB (s : State) : Host.Outcome State Fault Refusal :=
  done 1 (orA (s.reg .b) s)

/-- ORA C (R171). -/
def execOraC (s : State) : Host.Outcome State Fault Refusal :=
  done 1 (orA (s.reg .c) s)

/-- ORA D (R171). -/
def execOraD (s : State) : Host.Outcome State Fault Refusal :=
  done 1 (orA (s.reg .d) s)

/-- ORA E (R171). -/
def execOraE (s : State) : Host.Outcome State Fault Refusal :=
  done 1 (orA (s.reg .e) s)

/-- ORA H (R171). -/
def execOraH (s : State) : Host.Outcome State Fault Refusal :=
  done 1 (orA (s.reg .h) s)

/-- ORA L (R171). -/
def execOraL (s : State) : Host.Outcome State Fault Refusal :=
  done 1 (orA (s.reg .l) s)

/-- ORA M (R176). -/
def execOraM (s : State) : Host.Outcome State Fault Refusal :=
  viaM (fun v t => orA v t) s

/-- ORA A (R171). -/
def execOraA (s : State) : Host.Outcome State Fault Refusal :=
  done 1 (orA (s.reg .a) s)

/-- CMP B (R173). -/
def execCmpB (s : State) : Host.Outcome State Fault Refusal :=
  done 1 (cmpA (s.reg .b) s)

/-- CMP C (R173). -/
def execCmpC (s : State) : Host.Outcome State Fault Refusal :=
  done 1 (cmpA (s.reg .c) s)

/-- CMP D (R173). -/
def execCmpD (s : State) : Host.Outcome State Fault Refusal :=
  done 1 (cmpA (s.reg .d) s)

/-- CMP E (R173). -/
def execCmpE (s : State) : Host.Outcome State Fault Refusal :=
  done 1 (cmpA (s.reg .e) s)

/-- CMP H (R173). -/
def execCmpH (s : State) : Host.Outcome State Fault Refusal :=
  done 1 (cmpA (s.reg .h) s)

/-- CMP L (R173). -/
def execCmpL (s : State) : Host.Outcome State Fault Refusal :=
  done 1 (cmpA (s.reg .l) s)

/-- CMP M (R177). -/
def execCmpM (s : State) : Host.Outcome State Fault Refusal :=
  viaM (fun v t => cmpA v t) s

/-- CMP A (R173). -/
def execCmpA (s : State) : Host.Outcome State Fault Refusal :=
  done 1 (cmpA (s.reg .a) s)

/-- ANI (R181). -/
def execAni (d8 : Byte) (s : State) : Host.Outcome State Fault Refusal :=
  done 2 (andA d8 s)

/-- XRI (R182). -/
def execXri (d8 : Byte) (s : State) : Host.Outcome State Fault Refusal :=
  done 2 (xorA d8 s)

/-- ORI (R183). -/
def execOri (d8 : Byte) (s : State) : Host.Outcome State Fault Refusal :=
  done 2 (orA d8 s)

/-- CPI (R184). -/
def execCpi (d8 : Byte) (s : State) : Host.Outcome State Fault Refusal :=
  done 2 (cmpA d8 s)

end Sys2Proof.Machine
end

