-- ==== Sys2Proof/Machine/Fetch.lean ====
section
/-! DEFINITION. Fetching an instruction: all its bytes, byte by byte in ascending address order, before it executes
(30_encoding.md R70, 20_memory.md R49, R54); and placing the bytes of an instruction where the next fetch reads. -/

namespace Sys2Proof.Machine

/-- `n` bytes from consecutive addresses, the lowest first; addresses wrap (20_memory.md R44). -/
def State.readBytes (s : State) (addr : Word) (n : Nat) : List Byte × State :=
  match n with
  | 0 => ([], s)
  | k + 1 =>
    let r := s.readByte addr
    let rest := r.2.readBytes (addr + 1) k
    (r.1 :: rest.1, rest.2)

/-- The bytes of the instruction at `pc`: the opcode byte decides how many (R60, 00_scope.md R4). -/
def State.fetch (s : State) : List Byte × State :=
  let op := s.readByte s.pc
  let rest := op.2.readBytes (s.pc + 1) (instrLen op.1 - 1)
  (op.1 :: rest.1, rest.2)

/-- The instruction EI delayed interrupts for ends the delay: nothing inside an instruction looks at ei_delay, so it is
cleared when the instruction begins, and an EI sets it again (70_reset_and_hazards.md R343, log 22). -/
def State.beginInstr (s : State) : State := { s with eiDelay := false }

/-- The instruction at `pc` and the state it executes in, or the refusal of an unassigned opcode (R68). -/
def State.fetchInstr (s : State) : Except Refusal (Instr × State) :=
  let f := s.fetch
  match decodeOn s.platform.hasRimSim f.1 with
  | .ok (i, _) => .ok (i, f.2.beginInstr)
  | .error _ => .error (.unassignedOpcode s.pc (f.1.headD 0))

/-- Make one address RAM: a region of its own put before the others. -/
def State.asRam (s : State) (addr : Word) : State :=
  { s with
    platform := { s.platform with
      memMap := { first := addr.toNat, last := addr.toNat, kind := .ram } :: s.platform.memMap } }

/-- Put a byte at an address from outside the machine; where the platform has no memory there, the address is made RAM,
so that a fetch reads the byte. -/
def State.placeByte (s : State) (addr : Word) (v : Byte) : State :=
  let s1 := { s with mem := Memory.write s.mem addr.toNat v }
  match s.kindAt addr with
  | .ram => s1
  | .rom => s1
  | .device => s1.asRam addr
  | .absent => s1.asRam addr

/-- Put bytes at consecutive addresses. -/
def State.placeBytes (s : State) (addr : Word) (bytes : List Byte) : State :=
  match bytes with
  | [] => s
  | v :: rest => (s.placeByte addr v).placeBytes (addr + 1) rest

end Sys2Proof.Machine
end

