-- ==== Sys2Proof/Machine/Interrupts.lean ====
section
/-! DEFINITION. The instruction boundary (60_exceptions.md R309 to R316, R324): under IRQ_MODEL = gk8085 the pins are
sampled, and the highest eligible source is accepted. All of it is the spec's general knowledge (log 6). -/

namespace Sys2Proof.Machine

/-- Whether a source is eligible (R310), `p` the present sample. The 8080A has INTR alone (R308); that EI's delay holds
INTR off on the 8080A too is a DESIGN CHOICE (log 34). -/
def State.eligible (s : State) (p : PinSample) (src : IntSource) : Bool :=
  let enabled := s.ie && !s.eiDelay
  match src with
  | .trap => s.platform.hasRimSim && p.trap
  | .rst75 => s.platform.hasRimSim && s.r75 && !s.m75 && enabled
  | .rst65 => s.platform.hasRimSim && p.rst65 && !s.m65 && enabled
  | .rst55 => s.platform.hasRimSim && p.rst55 && !s.m55 && enabled
  | .intr => p.intr && enabled

/-- The eligible source of highest priority (R311): TRAP, RST 7.5, RST 6.5, RST 5.5, INTR. -/
def State.highestSource (s : State) (p : PinSample) : Option IntSource :=
  if s.eligible p .trap then some .trap
  else if s.eligible p .rst75 then some .rst75
  else if s.eligible p .rst65 then some .rst65
  else if s.eligible p .rst55 then some .rst55
  else if s.eligible p .intr then some .intr
  else none

/-- Where an accepted source enters (R313, R314). An INTR device that supplies an instruction other than RST n or CALL
is refused (93_implementation_defined.md U10, log 28). -/
def entryAddress (p : PinSample) (src : IntSource) : Except Refusal Word :=
  match src with
  | .trap => .ok 0x0024
  | .rst55 => .ok 0x002C
  | .rst65 => .ok 0x0034
  | .rst75 => .ok 0x003C
  | .intr =>
    match p.intrInstr with
    | .rst n => .ok (BitVec.ofNat 16 (8 * n.val))
    | .call addr => .ok addr
    | .other op => .error (.intrInstruction op)

/-- Sampling the pins: the sample is used up, and an edge on RST 7.5 sets R75 whatever its mask (R304, R310). -/
def State.samplePins (s : State) : State :=
  { s with schedule := s.schedule.tail, r75 := s.r75 || (s.platform.hasRimSim && s.pinsNow.rst75Edge) }

/-- The boundary after an instruction, and the only step of a halted machine (R310, R324). Under IRQ_MODEL none nothing
happens (R309). -/
def boundary (s : State) : Host.Outcome State Fault Refusal :=
  match s.platform.irq with
  | .none => .next s
  | .gk8085 =>
    let p := s.pinsNow
    let s1 := s.samplePins
    match s1.highestSource p with
    | none => .next s1
    | some src =>
      match entryAddress p src with
      | .ok target => .next (s1.enterInterrupt src target)
      | .error r => .refused r

end Sys2Proof.Machine
end

