-- ==== Sys2Proof/Machine/Step.lean ====
section
/-! DEFINITION. One step of the machine: RESET IN, or the boundary of a halted machine, or one instruction and the
boundary after it (60_exceptions.md R310, R318, R324; 70_reset_and_hazards.md R340). -/

namespace Sys2Proof.Machine

/-- One step. With RESET IN active the machine is reset. A halted machine executes nothing (10_state.md R32): only the
boundary is left, which under IRQ_MODEL none changes nothing. Otherwise the instruction at `pc` is fetched and executed,
and the boundary after it is taken (log 23). -/
def step (s : State) : Host.Outcome State Fault Refusal :=
  if s.resetIn then .next s.applyReset
  else if s.halted then boundary s
  else
    match s.fetchInstr with
    | .ok (i, t) => andThen (exec i t) boundary
    | .error r => .refused r

/-- The state with the bytes of a table row stored at `pc`, so that the next step fetches and runs that instruction: the
machine is neither halted nor in reset, and the three addresses are memory (log 26). -/
def State.withFetchWord (s : State) (nbits w : Nat) : State :=
  { s with halted := false, resetIn := false }.placeBytes s.pc (tableBytes nbits w)

end Sys2Proof.Machine
end

