-- ==== Sys2Proof/Machine/Timing.lean ====
section
/-! DEFINITION. The CYCLES column as the spec transcribes it (70_reset_and_hazards.md R345). A table only: no state
counts cycles and no rule depends on them (92_eei_decisions.md D23, log 25). -/

namespace Sys2Proof.Machine

/-- The clock cycles of an instruction; `taken` says whether the condition of a conditional instruction is true and is
not looked at by the others (R345). -/
def cycles (i : Instr) (taken : Bool) : Nat :=
  match i with
  | .nop | .rlc | .rrc | .ral | .rar | .rim | .daa | .cma | .sim | .stc | .cmc | .addB | .addC | .addD | .addE
  | .addH | .addL | .addA | .adcB | .adcC | .adcD | .adcE | .adcH | .adcL | .adcA | .subB | .subC | .subD | .subE
  | .subH | .subL | .subA | .sbbB | .sbbC | .sbbD | .sbbE | .sbbH | .sbbL | .sbbA | .anaB | .anaC | .anaD | .anaE
  | .anaH | .anaL | .anaA | .xraB | .xraC | .xraD | .xraE | .xraH | .xraL | .xraA | .oraB | .oraC | .oraD | .oraE
  | .oraH | .oraL | .oraA | .cmpB | .cmpC | .cmpD | .cmpE | .cmpH | .cmpL | .cmpA | .xchg | .di | .ei => 4
  | .inxB | .inrB | .dcrB | .dcxB | .inrC | .dcrC | .inxD | .inrD | .dcrD | .dcxD | .inrE | .dcrE | .inxH | .inrH
  | .dcrH | .dcxH | .inrL | .dcrL | .inxSp | .dcxSp | .inrA | .dcrA | .movBB | .movBC | .movBD | .movBE | .movBH
  | .movBL | .movBA | .movCB | .movCC | .movCD | .movCE | .movCH | .movCL | .movCA | .movDB | .movDC | .movDD
  | .movDE | .movDH | .movDL | .movDA | .movEB | .movEC | .movED | .movEE | .movEH | .movEL | .movEA | .movHB
  | .movHC | .movHD | .movHE | .movHH | .movHL | .movHA | .movLB | .movLC | .movLD | .movLE | .movLH | .movLL
  | .movLA | .movAB | .movAC | .movAD | .movAE | .movAH | .movAL | .movAA | .pchl | .sphl => 5
  | .rnz | .rz | .rnc | .rc | .rpo | .rpe | .rp | .rm => if taken then 11 else 5
  | .staxB | .mviB _ | .ldaxB | .mviC _ | .staxD | .mviD _ | .ldaxD | .mviE _ | .mviH _ | .mviL _ | .mviA _
  | .movBM | .movCM | .movDM | .movEM | .movHM | .movLM | .movMB | .movMC | .movMD | .movME | .movMH | .movML
  | .hlt | .movMA | .movAM | .addM | .adcM | .subM | .sbbM | .anaM | .xraM | .oraM | .cmpM | .adi _ | .aci _
  | .sui _ | .sbi _ | .ani _ | .xri _ | .ori _ | .cpi _ => 7
  | .jnz _ | .jz _ | .jnc _ | .jc _ | .jpo _ | .jpe _ | .jp _ | .jm _ => if taken then 10 else 7
  | .lxiB _ | .dadB | .lxiD _ | .dadD | .lxiH _ | .dadH | .lxiSp _ | .inrM | .dcrM | .mviM _ | .dadSp | .popB
  | .jmp _ | .pushB | .ret | .popD | .outPort _ | .pushD | .inPort _ | .popH | .pushH | .popPsw | .pushPsw => 10
  | .rst0 | .rst1 | .rst2 | .rst3 | .rst4 | .rst5 | .rst6 | .rst7 => 11
  | .cnz _ | .cz _ | .cnc _ | .cc _ | .cpo _ | .cpe _ | .cp _ | .cm _ => if taken then 17 else 11
  | .sta _ | .lda _ => 13
  | .shld _ | .lhld _ => 16
  | .call _ => 17
  | .xthl => 18

end Sys2Proof.Machine
end

