-- ==== Sys2Proof/Safety.lean ====
section
/-! DEFINITION. The terms claims use: what it means that a part of the state is unchanged, that bytes are stored, that
the flags agree with a result, that a source of interrupts is eligible; the invariant of the machine; running a list of
instructions. They are written from the spec's words beside the model, not by calling the model's own computations,
wherever the two can differ. -/

namespace Sys2Proof

/-- The two registers of a pair; SP has none (10_state.md R12). -/
def Pair.halves : Pair → List Reg
  | .b => [.b, .c]
  | .d => [.d, .e]
  | .h => [.h, .l]
  | .sp => []

/-- The registers of a pair of PUSH and POP (R12, R26). -/
def StackPair.halves : StackPair → List Reg
  | .b => [.b, .c]
  | .d => [.d, .e]
  | .h => [.h, .l]
  | .psw => [.a]

/-- The instructions that can set pc to something other than the address of the next instruction (10_state.md R15). -/
def Instr.isTransfer (i : Instr) : Prop :=
  (∃ addr, i = .jmp addr) ∨ (∃ cc addr, i = .jumpOf cc addr) ∨ (∃ addr, i = .call addr) ∨
  (∃ cc addr, i = .callOf cc addr) ∨ i = .ret ∨ (∃ cc, i = .returnOf cc) ∨ (∃ n, i = .rstOf n) ∨ i = .pchl

end Sys2Proof

namespace Sys2Proof.Machine

/-- The instruction has these bytes and these cycle counts (condition false, condition true) in the spec's tables
(30_encoding.md R61; 70_reset_and_hazards.md R345). -/
def Listed (i : Instr) (bytes : List Byte) (notTaken taken : Nat) : Prop :=
  encode i = bytes ∧ cycles i false = notTaken ∧ cycles i true = taken

/-- Every general register but those listed holds what it held. -/
def SameRegs (except : List Reg) (s t : State) : Prop := ∀ q : Reg, q ∉ except → t.reg q = s.reg q

/-- IE, the masks, R75, SOD, halted and ei_delay hold what they held. -/
def SameControl (s t : State) : Prop :=
  t.ie = s.ie ∧ t.m55 = s.m55 ∧ t.m65 = s.m65 ∧ t.m75 = s.m75 ∧ t.r75 = s.r75 ∧ t.sod = s.sod ∧
    t.halted = s.halted ∧ t.eiDelay = s.eiDelay

/-- The platform, the pin samples to come and RESET IN are as they were. -/
def SameEnv (s t : State) : Prop :=
  t.platform = s.platform ∧ t.schedule = s.schedule ∧ t.resetIn = s.resetIn

/-- What the instruction in question does not name: no oracle is drawn, and IE, the masks, R75, SOD, halted, ei_delay,
the platform, the pins to come and RESET IN are as they were. -/
def SameRest (s t : State) : Prop := t.draws = s.draws ∧ SameControl s t ∧ SameEnv s t

/-- Nothing is stored: every address reads as before, and no event is put out. -/
def NothingStored (s t : State) : Prop := (∀ x : Word, t.peek x = s.peek x) ∧ t.outputs = s.outputs

/-- These bytes are stored at these addresses, in this order (20_memory.md R43, R49, R50): RAM takes its byte, a device
address puts out an event, ROM and absent addresses drop theirs, and every other address reads as before. -/
def Stored (s t : State) (stores : List (Word × Byte)) : Prop :=
  (∀ x : Word, t.peek x =
    stores.foldl (fun old p => if p.1 = x ∧ s.kindAt x = .ram then p.2 else old) (s.peek x)) ∧
  (∀ x : Word, (∀ p ∈ stores, p.1 ≠ x) → t.peek x = s.peek x) ∧
  t.outputs = s.outputs ++
    stores.filterMap (fun p => if s.kindAt p.1 = .device then some (OutEvent.device p.1 p.2) else none)

/-- An address the platform shows as memory. -/
def IsMemory (s : State) (addr : Word) : Prop := s.kindAt addr = .ram ∨ s.kindAt addr = .rom

/-- How many bits of a byte are 1. -/
def onesOf (v : Byte) : Nat := (List.range 8).countP (fun k => v.getLsbD k)

/-- Z, S and P agree with a result (10_state.md R18, R19, R20). -/
def ResultFlags (f : Flags) (v : Byte) : Prop :=
  f.z = decide (v.toNat = 0) ∧ f.s = decide (128 ≤ v.toNat) ∧ f.p = decide (onesOf v % 2 = 0)

/-- CY, AC and the result `r` are those of the addition a + v + c (R21, R22, R24), and Z, S, P agree with the result. -/
def SumOf (r : Byte) (f : Flags) (a v : Byte) (c : Bool) : Prop :=
  r.toNat = (a.toNat + v.toNat + c.toNat) % 256 ∧
  f.cy = decide (255 < a.toNat + v.toNat + c.toNat) ∧
  f.ac = decide (15 < a.toNat % 16 + v.toNat % 16 + c.toNat) ∧
  ResultFlags f r

/-- CY, AC and the result `r` are those of the subtraction a - v - c (R21, R25): CY is the borrow, AC is 1 when no borrow
from bit 4 is needed (the spec's decision D4, log 14). -/
def DifferenceOf (r : Byte) (f : Flags) (a v : Byte) (c : Bool) : Prop :=
  r.toNat = (256 + a.toNat - v.toNat - c.toNat) % 256 ∧
  f.cy = decide (a.toNat < v.toNat + c.toNat) ∧
  f.ac = decide (v.toNat % 16 + c.toNat ≤ a.toNat % 16) ∧
  ResultFlags f r

/-- The flags after a logical operation with result `r`: CY = 0, AC as the operation says (42_logical.md). -/
def LogicOf (r : Byte) (f : Flags) (ac : Bool) : Prop := f.cy = false ∧ f.ac = ac ∧ ResultFlags f r

/-- What an operation of the field ALU does with A and the operand `v` (30_encoding.md R67). -/
def AluGives (op : AluOp) (s t : State) (v : Byte) : Prop :=
  match op with
  | .add => SumOf t.a t.flags s.a v false
  | .adc => SumOf t.a t.flags s.a v s.flags.cy
  | .sub => DifferenceOf t.a t.flags s.a v false
  | .sbb => DifferenceOf t.a t.flags s.a v s.flags.cy
  | .ana => t.a = s.a &&& v ∧ LogicOf t.a t.flags true
  | .xra => t.a = s.a ^^^ v ∧ LogicOf t.a t.flags false
  | .ora => t.a = s.a ||| v ∧ LogicOf t.a t.flags false
  | .cmp => t.a = s.a ∧ ∃ r, DifferenceOf r t.flags s.a v false

/-- The condition of the field CCC is true (43_branch.md R200). -/
def CondTrue (cc : Cond) (f : Flags) : Prop :=
  match cc with
  | .nz => f.z = false
  | .z => f.z = true
  | .nc => f.cy = false
  | .c => f.cy = true
  | .po => f.p = false
  | .pe => f.p = true
  | .p => f.s = false
  | .m => f.s = true

/-- The opcode bytes that spell no instruction (30_encoding.md R68; 00_scope.md R3). -/
def unassignedCodes (hasRimSim : Bool) : List Byte :=
  [0x08, 0x10, 0x18, 0x28, 0x38, 0xCB, 0xD9, 0xDD, 0xED, 0xFD] ++ if hasRimSim then [] else [0x20, 0x30]

/-- R75 as the boundary sees it, after the edge of its sample (60_exceptions.md R310). -/
def r75AtBoundary (s : State) : Bool := s.r75 || (s.platform.hasRimSim && s.pinsNow.rst75Edge)

/-- A source is eligible at the boundary after `s` (60_exceptions.md R310; the 8080A has INTR alone, R308, and
keeps EI's delay, the model's choice, log 34). -/
def EligibleAt (s : State) (src : IntSource) : Prop :=
  match src with
  | .trap => s.platform.hasRimSim = true ∧ s.pinsNow.trap = true
  | .rst75 => s.platform.hasRimSim = true ∧ r75AtBoundary s = true ∧ s.m75 = false ∧ s.ie = true ∧ s.eiDelay = false
  | .rst65 => s.platform.hasRimSim = true ∧ s.pinsNow.rst65 = true ∧ s.m65 = false ∧ s.ie = true ∧ s.eiDelay = false
  | .rst55 => s.platform.hasRimSim = true ∧ s.pinsNow.rst55 = true ∧ s.m55 = false ∧ s.ie = true ∧ s.eiDelay = false
  | .intr => s.pinsNow.intr = true ∧ s.ie = true ∧ s.eiDelay = false

/-- The place of a source in the order of priority (R311), 0 the highest. -/
def IntSource.rank : IntSource → Nat
  | .trap => 0
  | .rst75 => 1
  | .rst65 => 2
  | .rst55 => 3
  | .intr => 4

/-- The one source that is accepted (R311): eligible, and none of higher priority is. -/
def AcceptedAt (s : State) (src : IntSource) : Prop :=
  EligibleAt s src ∧ ∀ other : IntSource, other.rank < src.rank → ¬ EligibleAt s other

/-- Where an accepted source is entered (R313, R314); INTR names its target only when the device supplies RST n or CALL. -/
def EntersAt (s : State) (src : IntSource) (target : Word) : Prop :=
  match src with
  | .trap => target = 0x0024
  | .rst55 => target = 0x002C
  | .rst65 => target = 0x0034
  | .rst75 => target = 0x003C
  | .intr => (∃ n : Fin 8, s.pinsNow.intrInstr = .rst n ∧ target = BitVec.ofNat 16 (8 * n.val)) ∨
      s.pinsNow.intrInstr = .call target

/-- The step of `s` runs instruction `i`: the machine is neither halted nor in reset and the bytes at pc decode to `i`. -/
def RunsInstr (s : State) (i : Instr) : Prop :=
  s.resetIn = false ∧ s.halted = false ∧ ∃ rest, decodeOn s.platform.hasRimSim s.fetch.1 = .ok (i, rest)

/-- The invariant: memory is in canonical form, and ei_delay exists only under gk8085 (10_state.md R33). -/
def State.Inv (s : State) : Prop :=
  Memory.wf s.mem = true ∧ (s.platform.irq = .none → s.eiDelay = false)

/-- Executing instructions one after the other, as `exec` does each. -/
def execAll (is : List Instr) (s : State) : Host.Outcome State Fault Refusal :=
  match is with
  | [] => .next s
  | i :: rest => andThen (exec i s) (execAll rest)

/-- The packed BCD byte of a number below 100: two decimal digits. -/
def bcd (n : Nat) : Byte := BitVec.ofNat 8 (n / 10 * 16 + n % 10)

/-- An outcome with a change applied to its next state. -/
def mapNext (f : State → State) (o : Host.Outcome State Fault Refusal) : Host.Outcome State Fault Refusal :=
  andThen o (fun t => .next (f t))

end Sys2Proof.Machine
end

