-- ==== Sys2Proof/Certificates/Slice0/Obligations.lean ====
section
/-! DEFINITION. The statements for the provers. An instruction's statement says that `exec` completes from every state,
what the next state holds, what it leaves alone (its frame), and the instruction's bytes and cycle counts as the spec
lists them. Three readings serve all of them and are the spec's own decisions, not the source's: state a rule does not
name keeps its value (00_scope.md R5, log 18), pc and every address wrap at 65536 (log 16), and the order of the byte
accesses (log 19). A byte read is `readByte`, whose meaning by the kind of the address is `MemoryByKind`. -/

open Sys2Proof Sys2Proof.Machine

/-! ## Data transfer -/

/-- MOV r1,r2 (40_data_transfer.md R108), all 49 pairs of registers. -/
def Obligations.MovRegister : Prop :=
  ∀ (dst src : Reg) (s : State), ∃ t, exec (.movOf dst src) s = .next t ∧
    t.reg dst = s.reg src ∧ SameRegs [dst] s t ∧ t.flags = s.flags ∧ t.sp = s.sp ∧ t.pc = s.pc + 1 ∧
    NothingStored s t ∧ SameRest s t ∧
    Listed (.movOf dst src) [0b01#2 ++ dst.code ++ src.code] 5 5

/-- MOV r,M (R109): the address is HL as it stands before the register is written, so r = H and r = L are covered. -/
def Obligations.MovFromMemory : Prop :=
  ∀ (dst : Reg) (s : State), ∃ t, exec (.loadOf dst) s = .next t ∧
    t.reg dst = (s.readByte s.hl).1 ∧ t.draws = (s.readByte s.hl).2.draws ∧
    SameRegs [dst] s t ∧ t.flags = s.flags ∧ t.sp = s.sp ∧ t.pc = s.pc + 1 ∧
    NothingStored s t ∧ SameControl s t ∧ SameEnv s t ∧
    Listed (.loadOf dst) [0b01#2 ++ dst.code ++ 0b110#3] 7 7

/-- MOV M,r (R110) and MVI M (R112): one byte is stored at HL. -/
def Obligations.StoreAtHL : Prop :=
  (∀ (src : Reg) (s : State), ∃ t, exec (.storeOf src) s = .next t ∧
    Stored s t [(s.hl, s.reg src)] ∧ SameRegs [] s t ∧ t.flags = s.flags ∧ t.sp = s.sp ∧ t.pc = s.pc + 1 ∧
    SameRest s t ∧ Listed (.storeOf src) [0b01110#5 ++ src.code] 7 7) ∧
  (∀ (d8 : Byte) (s : State), ∃ t, exec (.mviM d8) s = .next t ∧
    Stored s t [(s.hl, d8)] ∧ SameRegs [] s t ∧ t.flags = s.flags ∧ t.sp = s.sp ∧ t.pc = s.pc + 2 ∧
    SameRest s t ∧ Listed (.mviM d8) [0x36, d8] 10 10)

/-- MVI r (R111). -/
def Obligations.MviRegister : Prop :=
  ∀ (dst : Reg) (d8 : Byte) (s : State), ∃ t, exec (.mviOf dst d8) s = .next t ∧
    t.reg dst = d8 ∧ SameRegs [dst] s t ∧ t.flags = s.flags ∧ t.sp = s.sp ∧ t.pc = s.pc + 2 ∧
    NothingStored s t ∧ SameRest s t ∧
    Listed (.mviOf dst d8) [0b00#2 ++ dst.code ++ 0b110#3, d8] 7 7

/-- LXI B, D, H and SP (R104 to R107): the second byte is the low half, the third the high half. -/
def Obligations.LxiPair : Prop :=
  ∀ (rp : Pair) (b2 b3 : Byte) (s : State), ∃ t, exec (.lxiOf rp (joinBytes b3 b2)) s = .next t ∧
    (rp = .b → t.b = b3 ∧ t.c = b2) ∧ (rp = .d → t.d = b3 ∧ t.e = b2) ∧ (rp = .h → t.h = b3 ∧ t.l = b2) ∧
    t.sp = (if rp = .sp then joinBytes b3 b2 else s.sp) ∧
    SameRegs rp.halves s t ∧ t.flags = s.flags ∧ t.pc = s.pc + 3 ∧ NothingStored s t ∧ SameRest s t ∧
    Listed (.lxiOf rp (joinBytes b3 b2)) [0b00#2 ++ rp.code ++ 0b0001#4, b2, b3] 10 10

/-- LDA (R100), LDAX B (R101) and LDAX D (R102). -/
def Obligations.LoadAccumulator : Prop :=
  (∀ (b2 b3 : Byte) (s : State), ∃ t, exec (.lda (joinBytes b3 b2)) s = .next t ∧
    t.a = (s.readByte (joinBytes b3 b2)).1 ∧ t.draws = (s.readByte (joinBytes b3 b2)).2.draws ∧
    SameRegs [.a] s t ∧ t.flags = s.flags ∧ t.sp = s.sp ∧ t.pc = s.pc + 3 ∧
    NothingStored s t ∧ SameControl s t ∧ SameEnv s t ∧ Listed (.lda (joinBytes b3 b2)) [0x3A, b2, b3] 13 13) ∧
  (∀ s : State, ∃ t, exec .ldaxB s = .next t ∧
    t.a = (s.readByte (joinBytes s.b s.c)).1 ∧ t.draws = (s.readByte (joinBytes s.b s.c)).2.draws ∧
    SameRegs [.a] s t ∧ t.flags = s.flags ∧ t.sp = s.sp ∧ t.pc = s.pc + 1 ∧
    NothingStored s t ∧ SameControl s t ∧ SameEnv s t ∧ Listed .ldaxB [0x0A] 7 7) ∧
  (∀ s : State, ∃ t, exec .ldaxD s = .next t ∧
    t.a = (s.readByte (joinBytes s.d s.e)).1 ∧ t.draws = (s.readByte (joinBytes s.d s.e)).2.draws ∧
    SameRegs [.a] s t ∧ t.flags = s.flags ∧ t.sp = s.sp ∧ t.pc = s.pc + 1 ∧
    NothingStored s t ∧ SameControl s t ∧ SameEnv s t ∧ Listed .ldaxD [0x1A] 7 7)

/-- STA (R114), STAX B (R115) and STAX D (R116). -/
def Obligations.StoreAccumulator : Prop :=
  (∀ (b2 b3 : Byte) (s : State), ∃ t, exec (.sta (joinBytes b3 b2)) s = .next t ∧
    Stored s t [(joinBytes b3 b2, s.a)] ∧ SameRegs [] s t ∧ t.flags = s.flags ∧ t.sp = s.sp ∧ t.pc = s.pc + 3 ∧
    SameRest s t ∧ Listed (.sta (joinBytes b3 b2)) [0x32, b2, b3] 13 13) ∧
  (∀ s : State, ∃ t, exec .staxB s = .next t ∧
    Stored s t [(joinBytes s.b s.c, s.a)] ∧ SameRegs [] s t ∧ t.flags = s.flags ∧ t.sp = s.sp ∧ t.pc = s.pc + 1 ∧
    SameRest s t ∧ Listed .staxB [0x02] 7 7) ∧
  (∀ s : State, ∃ t, exec .staxD s = .next t ∧
    Stored s t [(joinBytes s.d s.e, s.a)] ∧ SameRegs [] s t ∧ t.flags = s.flags ∧ t.sp = s.sp ∧ t.pc = s.pc + 1 ∧
    SameRest s t ∧ Listed .staxD [0x12] 7 7)

/-- LHLD (R103) and SHLD (R113): L with the address, H with the address after it; at 0xFFFF the second access is at
0x0000 (the spec's decision D2, log 16), and the lower address comes first (D8, log 19). -/
def Obligations.DirectHL : Prop :=
  (∀ (b2 b3 : Byte) (s : State), ∃ t, exec (.lhld (joinBytes b3 b2)) s = .next t ∧
    t.l = (s.readByte (joinBytes b3 b2)).1 ∧
    t.h = ((s.readByte (joinBytes b3 b2)).2.readByte (joinBytes b3 b2 + 1)).1 ∧
    t.draws = ((s.readByte (joinBytes b3 b2)).2.readByte (joinBytes b3 b2 + 1)).2.draws ∧
    SameRegs [.h, .l] s t ∧ t.flags = s.flags ∧ t.sp = s.sp ∧ t.pc = s.pc + 3 ∧
    NothingStored s t ∧ SameControl s t ∧ SameEnv s t ∧ Listed (.lhld (joinBytes b3 b2)) [0x2A, b2, b3] 16 16) ∧
  (∀ (b2 b3 : Byte) (s : State), ∃ t, exec (.shld (joinBytes b3 b2)) s = .next t ∧
    Stored s t [(joinBytes b3 b2, s.l), (joinBytes b3 b2 + 1, s.h)] ∧
    SameRegs [] s t ∧ t.flags = s.flags ∧ t.sp = s.sp ∧ t.pc = s.pc + 3 ∧ SameRest s t ∧
    Listed (.shld (joinBytes b3 b2)) [0x22, b2, b3] 16 16)

/-- XCHG (R117). -/
def Obligations.ExchangePairs : Prop :=
  ∀ s : State, ∃ t, exec .xchg s = .next t ∧
    t.h = s.d ∧ t.l = s.e ∧ t.d = s.h ∧ t.e = s.l ∧ SameRegs [.h, .l, .d, .e] s t ∧
    t.flags = s.flags ∧ t.sp = s.sp ∧ t.pc = s.pc + 1 ∧ NothingStored s t ∧ SameRest s t ∧ Listed .xchg [0xEB] 4 4

/-- SPHL (44_machine_stack_io.md R254) and PCHL (43_branch.md R229): the value of HL itself; no memory is read. -/
def Obligations.MovesFromHL : Prop :=
  (∀ s : State, ∃ t, exec .sphl s = .next t ∧ t.sp = joinBytes s.h s.l ∧ SameRegs [] s t ∧ t.flags = s.flags ∧
    t.pc = s.pc + 1 ∧ NothingStored s t ∧ SameRest s t ∧ Listed .sphl [0xF9] 5 5) ∧
  (∀ s : State, ∃ t, exec .pchl s = .next t ∧ t.pc = joinBytes s.h s.l ∧ SameRegs [] s t ∧ t.flags = s.flags ∧
    t.sp = s.sp ∧ NothingStored s t ∧ SameRest s t ∧ Listed .pchl [0xE9] 5 5)

/-! ## Arithmetic -/

/-- ADD r (41_arithmetic.md R133) and ADC r (R131), A as the operand included. -/
def Obligations.AddRegister : Prop :=
  (∀ (r : Reg) (s : State), ∃ t, exec (.aluOf .add r) s = .next t ∧ SumOf t.a t.flags s.a (s.reg r) false ∧
    SameRegs [.a] s t ∧ t.sp = s.sp ∧ t.pc = s.pc + 1 ∧ NothingStored s t ∧ SameRest s t ∧
    Listed (.aluOf .add r) [0b10000#5 ++ r.code] 4 4) ∧
  (∀ (r : Reg) (s : State), ∃ t, exec (.aluOf .adc r) s = .next t ∧ SumOf t.a t.flags s.a (s.reg r) s.flags.cy ∧
    SameRegs [.a] s t ∧ t.sp = s.sp ∧ t.pc = s.pc + 1 ∧ NothingStored s t ∧ SameRest s t ∧
    Listed (.aluOf .adc r) [0b10001#5 ++ r.code] 4 4)

/-- ADI (R135), ACI (R130), ADD M (R134) and ADC M (R132): the flags are those of the register forms, which the spec
derives (D6, log 18). -/
def Obligations.AddOtherForms : Prop :=
  ∀ op ∈ [AluOp.add, AluOp.adc],
    (∀ (d8 : Byte) (s : State), ∃ t, exec (.aluIOf op d8) s = .next t ∧ AluGives op s t d8 ∧
      SameRegs [.a] s t ∧ t.sp = s.sp ∧ t.pc = s.pc + 2 ∧ NothingStored s t ∧ SameRest s t ∧
      Listed (.aluIOf op d8) [0b11#2 ++ op.code ++ 0b110#3, d8] 7 7) ∧
    (∀ s : State, ∃ t, exec (.aluMOf op) s = .next t ∧ AluGives op s t (s.readByte s.hl).1 ∧
      t.draws = (s.readByte s.hl).2.draws ∧ SameRegs [.a] s t ∧ t.sp = s.sp ∧ t.pc = s.pc + 1 ∧
      NothingStored s t ∧ SameControl s t ∧ SameEnv s t ∧
      Listed (.aluMOf op) [0b10#2 ++ op.code ++ 0b110#3] 7 7)

/-- SUB, SBB, SUI, SBI, SUB M and SBB M (R153 to R158): CY is the borrow; AC is the spec's decision D4 (log 14). -/
def Obligations.SubtractForms : Prop :=
  ∀ op ∈ [AluOp.sub, AluOp.sbb],
    (∀ (r : Reg) (s : State), ∃ t, exec (.aluOf op r) s = .next t ∧ AluGives op s t (s.reg r) ∧
      SameRegs [.a] s t ∧ t.sp = s.sp ∧ t.pc = s.pc + 1 ∧ NothingStored s t ∧ SameRest s t ∧
      Listed (.aluOf op r) [0b10#2 ++ op.code ++ r.code] 4 4) ∧
    (∀ (d8 : Byte) (s : State), ∃ t, exec (.aluIOf op d8) s = .next t ∧ AluGives op s t d8 ∧
      SameRegs [.a] s t ∧ t.sp = s.sp ∧ t.pc = s.pc + 2 ∧ NothingStored s t ∧ SameRest s t ∧
      Listed (.aluIOf op d8) [0b11#2 ++ op.code ++ 0b110#3, d8] 7 7) ∧
    (∀ s : State, ∃ t, exec (.aluMOf op) s = .next t ∧ AluGives op s t (s.readByte s.hl).1 ∧
      t.draws = (s.readByte s.hl).2.draws ∧ SameRegs [.a] s t ∧ t.sp = s.sp ∧ t.pc = s.pc + 1 ∧
      NothingStored s t ∧ SameControl s t ∧ SameEnv s t ∧
      Listed (.aluMOf op) [0b10#2 ++ op.code ++ 0b110#3] 7 7)

/-- DAA (R136): the adjusted value is the source's; the five flags are the spec's decision D5 (log 15). -/
def Obligations.DecimalAdjust : Prop :=
  ∀ s : State, ∃ (t : State) (low high : Bool), exec .daa s = .next t ∧
    (low = true ↔ 10 ≤ s.a.toNat % 16 ∨ s.flags.ac = true) ∧
    (high = true ↔ 10 ≤ s.a.toNat / 16 ∨ s.flags.cy = true ∨ (10 ≤ s.a.toNat % 16 ∧ s.a.toNat / 16 = 9)) ∧
    t.a.toNat = (s.a.toNat + (if low then 0x06 else 0) + (if high then 0x60 else 0)) % 256 ∧
    t.flags.cy = high ∧ t.flags.ac = decide (10 ≤ s.a.toNat % 16) ∧ ResultFlags t.flags t.a ∧
    SameRegs [.a] s t ∧ t.sp = s.sp ∧ t.pc = s.pc + 1 ∧ NothingStored s t ∧ SameRest s t ∧ Listed .daa [0x27] 4 4

/-- DAD B, D, H and SP (R137 to R140): CY is the carry out of bit 15, no other flag changes (D6, D24, log 18). -/
def Obligations.DoubleAdd : Prop :=
  ∀ (rp : Pair) (s : State), ∃ t, exec (.dadOf rp) s = .next t ∧
    t.hl.toNat = (s.hl.toNat + (s.pair rp).toNat) % 65536 ∧
    t.flags = { s.flags with cy := decide (65535 < s.hl.toNat + (s.pair rp).toNat) } ∧
    SameRegs [.h, .l] s t ∧ t.sp = s.sp ∧ t.pc = s.pc + 1 ∧ NothingStored s t ∧ SameRest s t ∧
    Listed (.dadOf rp) [0b00#2 ++ rp.code ++ 0b1001#4] 10 10

/-- INR r (R141): CY keeps its value. -/
def Obligations.IncrementRegister : Prop :=
  ∀ (r : Reg) (s : State), ∃ t, exec (.inrOf r) s = .next t ∧
    (t.reg r).toNat = ((s.reg r).toNat + 1) % 256 ∧ t.flags.cy = s.flags.cy ∧
    t.flags.ac = decide ((s.reg r).toNat % 16 = 15) ∧ ResultFlags t.flags (t.reg r) ∧
    SameRegs [r] s t ∧ t.sp = s.sp ∧ t.pc = s.pc + 1 ∧ NothingStored s t ∧ SameRest s t ∧
    Listed (.inrOf r) [0b00#2 ++ r.code ++ 0b100#3] 5 5

/-- DCR r (R142): CY keeps its value; AC is the spec's decision D4 (log 14). -/
def Obligations.DecrementRegister : Prop :=
  ∀ (r : Reg) (s : State), ∃ t, exec (.dcrOf r) s = .next t ∧
    (t.reg r).toNat = ((s.reg r).toNat + 255) % 256 ∧ t.flags.cy = s.flags.cy ∧
    t.flags.ac = decide ((s.reg r).toNat % 16 ≠ 0) ∧ ResultFlags t.flags (t.reg r) ∧
    SameRegs [r] s t ∧ t.sp = s.sp ∧ t.pc = s.pc + 1 ∧ NothingStored s t ∧ SameRest s t ∧
    Listed (.dcrOf r) [0b00#2 ++ r.code ++ 0b101#3] 5 5

/-- INR M (R143) and DCR M (R144): the byte at HL is read, then the result is stored there (D4, D6, log 14, 18). -/
def Obligations.StepMemory : Prop :=
  (∀ s : State, ∃ t r, exec .inrM s = .next t ∧ r = (s.readByte s.hl).1 + 1 ∧ Stored s t [(s.hl, r)] ∧
    t.flags.cy = s.flags.cy ∧ t.flags.ac = decide ((s.readByte s.hl).1.toNat % 16 = 15) ∧ ResultFlags t.flags r ∧
    t.draws = (s.readByte s.hl).2.draws ∧ SameRegs [] s t ∧ t.sp = s.sp ∧ t.pc = s.pc + 1 ∧
    SameControl s t ∧ SameEnv s t ∧ Listed .inrM [0x34] 10 10) ∧
  (∀ s : State, ∃ t r, exec .dcrM s = .next t ∧ r = (s.readByte s.hl).1 - 1 ∧ Stored s t [(s.hl, r)] ∧
    t.flags.cy = s.flags.cy ∧ t.flags.ac = decide ((s.readByte s.hl).1.toNat % 16 ≠ 0) ∧ ResultFlags t.flags r ∧
    t.draws = (s.readByte s.hl).2.draws ∧ SameRegs [] s t ∧ t.sp = s.sp ∧ t.pc = s.pc + 1 ∧
    SameControl s t ∧ SameEnv s t ∧ Listed .dcrM [0x35] 10 10)

/-- INX and DCX of B, D, H and SP (R145 to R152): no flag changes, not even at the wrap (D2, D6, log 16, 18). -/
def Obligations.StepPair : Prop :=
  (∀ (rp : Pair) (s : State), ∃ t, exec (.inxOf rp) s = .next t ∧ t.pair rp = s.pair rp + 1 ∧
    SameRegs rp.halves s t ∧ (rp ≠ .sp → t.sp = s.sp) ∧ t.flags = s.flags ∧ t.pc = s.pc + 1 ∧
    NothingStored s t ∧ SameRest s t ∧ Listed (.inxOf rp) [0b00#2 ++ rp.code ++ 0b0011#4] 5 5) ∧
  (∀ (rp : Pair) (s : State), ∃ t, exec (.dcxOf rp) s = .next t ∧ t.pair rp = s.pair rp - 1 ∧
    SameRegs rp.halves s t ∧ (rp ≠ .sp → t.sp = s.sp) ∧ t.flags = s.flags ∧ t.pc = s.pc + 1 ∧
    NothingStored s t ∧ SameRest s t ∧ Listed (.dcxOf rp) [0b00#2 ++ rp.code ++ 0b1011#4] 5 5)

/-! ## Logical -/

/-- ANA, XRA and ORA on a register, on an immediate byte and on M (42_logical.md R170 to R172, R174 to R176, R181 to
R183): Z, S, P from the result, CY = 0, AC = 1 after AND and 0 after the others (D6, D24, log 18). -/
def Obligations.LogicalForms : Prop :=
  ∀ op ∈ [AluOp.ana, AluOp.xra, AluOp.ora],
    (∀ (r : Reg) (s : State), ∃ t, exec (.aluOf op r) s = .next t ∧ AluGives op s t (s.reg r) ∧
      SameRegs [.a] s t ∧ t.sp = s.sp ∧ t.pc = s.pc + 1 ∧ NothingStored s t ∧ SameRest s t ∧
      Listed (.aluOf op r) [0b10#2 ++ op.code ++ r.code] 4 4) ∧
    (∀ (d8 : Byte) (s : State), ∃ t, exec (.aluIOf op d8) s = .next t ∧ AluGives op s t d8 ∧
      SameRegs [.a] s t ∧ t.sp = s.sp ∧ t.pc = s.pc + 2 ∧ NothingStored s t ∧ SameRest s t ∧
      Listed (.aluIOf op d8) [0b11#2 ++ op.code ++ 0b110#3, d8] 7 7) ∧
    (∀ s : State, ∃ t, exec (.aluMOf op) s = .next t ∧ AluGives op s t (s.readByte s.hl).1 ∧
      t.draws = (s.readByte s.hl).2.draws ∧ SameRegs [.a] s t ∧ t.sp = s.sp ∧ t.pc = s.pc + 1 ∧
      NothingStored s t ∧ SameControl s t ∧ SameEnv s t ∧
      Listed (.aluMOf op) [0b10#2 ++ op.code ++ 0b110#3] 7 7)

/-- CMP r, CPI and CMP M (R173, R184, R177): no register changes; Z says A = operand, CY says A < operand; the flags are
those of the subtraction (D4, D24, log 14, 18). -/
def Obligations.CompareForms : Prop :=
  (∀ (r : Reg) (s : State), ∃ t, exec (.aluOf .cmp r) s = .next t ∧ AluGives .cmp s t (s.reg r) ∧
    t.flags.z = decide (s.a = s.reg r) ∧ t.flags.cy = decide (s.a.toNat < (s.reg r).toNat) ∧
    SameRegs [] s t ∧ t.sp = s.sp ∧ t.pc = s.pc + 1 ∧ NothingStored s t ∧ SameRest s t ∧
    Listed (.aluOf .cmp r) [0b10111#5 ++ r.code] 4 4) ∧
  (∀ (d8 : Byte) (s : State), ∃ t, exec (.cpi d8) s = .next t ∧ AluGives .cmp s t d8 ∧
    t.flags.z = decide (s.a = d8) ∧ t.flags.cy = decide (s.a.toNat < d8.toNat) ∧
    SameRegs [] s t ∧ t.sp = s.sp ∧ t.pc = s.pc + 2 ∧ NothingStored s t ∧ SameRest s t ∧
    Listed (.cpi d8) [0xFE, d8] 7 7) ∧
  (∀ s : State, ∃ t, exec .cmpM s = .next t ∧ AluGives .cmp s t (s.readByte s.hl).1 ∧
    t.flags.z = decide (s.a = (s.readByte s.hl).1) ∧ t.flags.cy = decide (s.a.toNat < (s.readByte s.hl).1.toNat) ∧
    t.draws = (s.readByte s.hl).2.draws ∧ SameRegs [] s t ∧ t.sp = s.sp ∧ t.pc = s.pc + 1 ∧
    NothingStored s t ∧ SameControl s t ∧ SameEnv s t ∧ Listed .cmpM [0xBE] 7 7)

/-- CMA (R178), CMC (R179) and STC (R180). -/
def Obligations.ComplementAndCarry : Prop :=
  (∀ s : State, ∃ t, exec .cma s = .next t ∧ t.a.toNat = 255 - s.a.toNat ∧ SameRegs [.a] s t ∧ t.flags = s.flags ∧
    t.sp = s.sp ∧ t.pc = s.pc + 1 ∧ NothingStored s t ∧ SameRest s t ∧ Listed .cma [0x2F] 4 4) ∧
  (∀ s : State, ∃ t, exec .cmc s = .next t ∧ t.flags = { s.flags with cy := !s.flags.cy } ∧ SameRegs [] s t ∧
    t.sp = s.sp ∧ t.pc = s.pc + 1 ∧ NothingStored s t ∧ SameRest s t ∧ Listed .cmc [0x3F] 4 4) ∧
  (∀ s : State, ∃ t, exec .stc s = .next t ∧ t.flags = { s.flags with cy := true } ∧ SameRegs [] s t ∧
    t.sp = s.sp ∧ t.pc = s.pc + 1 ∧ NothingStored s t ∧ SameRest s t ∧ Listed .stc [0x37] 4 4)

/-- RLC, RRC, RAL and RAR (R185 to R188), bit by bit as the source writes them; CY alone among the flags (D6, log 18). -/
def Obligations.Rotates : Prop :=
  (∀ s : State, ∃ t, exec .rlc s = .next t ∧ (∀ m < 7, t.a.getLsbD (m + 1) = s.a.getLsbD m) ∧
    t.a.getLsbD 0 = s.a.getLsbD 7 ∧ t.flags = { s.flags with cy := s.a.getLsbD 7 } ∧ SameRegs [.a] s t ∧
    t.sp = s.sp ∧ t.pc = s.pc + 1 ∧ NothingStored s t ∧ SameRest s t ∧ Listed .rlc [0x07] 4 4) ∧
  (∀ s : State, ∃ t, exec .rrc s = .next t ∧ (∀ m < 7, t.a.getLsbD m = s.a.getLsbD (m + 1)) ∧
    t.a.getLsbD 7 = s.a.getLsbD 0 ∧ t.flags = { s.flags with cy := s.a.getLsbD 0 } ∧ SameRegs [.a] s t ∧
    t.sp = s.sp ∧ t.pc = s.pc + 1 ∧ NothingStored s t ∧ SameRest s t ∧ Listed .rrc [0x0F] 4 4) ∧
  (∀ s : State, ∃ t, exec .ral s = .next t ∧ (∀ m < 7, t.a.getLsbD (m + 1) = s.a.getLsbD m) ∧
    t.a.getLsbD 0 = s.flags.cy ∧ t.flags = { s.flags with cy := s.a.getLsbD 7 } ∧ SameRegs [.a] s t ∧
    t.sp = s.sp ∧ t.pc = s.pc + 1 ∧ NothingStored s t ∧ SameRest s t ∧ Listed .ral [0x17] 4 4) ∧
  (∀ s : State, ∃ t, exec .rar s = .next t ∧ (∀ m < 7, t.a.getLsbD m = s.a.getLsbD (m + 1)) ∧
    t.a.getLsbD 7 = s.flags.cy ∧ t.flags = { s.flags with cy := s.a.getLsbD 0 } ∧ SameRegs [.a] s t ∧
    t.sp = s.sp ∧ t.pc = s.pc + 1 ∧ NothingStored s t ∧ SameRest s t ∧ Listed .rar [0x1F] 4 4)

/-! ## Branches -/

/-- JMP and the eight conditional jumps (43_branch.md R200, R220 to R228): nothing but pc changes. -/
def Obligations.Jumps : Prop :=
  (∀ (b2 b3 : Byte) (s : State), ∃ t, exec (.jmp (joinBytes b3 b2)) s = .next t ∧ t.pc = joinBytes b3 b2 ∧
    SameRegs [] s t ∧ t.flags = s.flags ∧ t.sp = s.sp ∧ NothingStored s t ∧ SameRest s t ∧
    Listed (.jmp (joinBytes b3 b2)) [0xC3, b2, b3] 10 10) ∧
  (∀ (cc : Cond) (b2 b3 : Byte) (s : State), ∃ t, exec (.jumpOf cc (joinBytes b3 b2)) s = .next t ∧
    (CondTrue cc s.flags → t.pc = joinBytes b3 b2) ∧ (¬CondTrue cc s.flags → t.pc = s.pc + 3) ∧
    SameRegs [] s t ∧ t.flags = s.flags ∧ t.sp = s.sp ∧ NothingStored s t ∧ SameRest s t ∧
    Listed (.jumpOf cc (joinBytes b3 b2)) [0b11#2 ++ cc.code ++ 0b010#3, b2, b3] 7 10)

/-- CALL and the eight conditional calls (R201 to R209): a taken call pushes the address of the instruction after it, its
high byte at SP - 1 and its low byte at SP - 2 (the spec's decision D3, log 17); one not taken writes nothing. -/
def Obligations.Calls : Prop :=
  (∀ (b2 b3 : Byte) (s : State), ∃ t, exec (.call (joinBytes b3 b2)) s = .next t ∧ t.pc = joinBytes b3 b2 ∧
    t.sp = s.sp - 2 ∧ Stored s t [(s.sp - 1, hiByte (s.pc + 3)), (s.sp - 2, loByte (s.pc + 3))] ∧
    SameRegs [] s t ∧ t.flags = s.flags ∧ SameRest s t ∧ Listed (.call (joinBytes b3 b2)) [0xCD, b2, b3] 17 17) ∧
  (∀ (cc : Cond) (b2 b3 : Byte) (s : State), ∃ t, exec (.callOf cc (joinBytes b3 b2)) s = .next t ∧
    (CondTrue cc s.flags → t.pc = joinBytes b3 b2 ∧ t.sp = s.sp - 2 ∧
      Stored s t [(s.sp - 1, hiByte (s.pc + 3)), (s.sp - 2, loByte (s.pc + 3))]) ∧
    (¬CondTrue cc s.flags → t.pc = s.pc + 3 ∧ t.sp = s.sp ∧ NothingStored s t) ∧
    SameRegs [] s t ∧ t.flags = s.flags ∧ SameRest s t ∧
    Listed (.callOf cc (joinBytes b3 b2)) [0b11#2 ++ cc.code ++ 0b100#3, b2, b3] 11 17)

/-- RET and the eight conditional returns (R210 to R218): pc takes the byte at SP as its low half and the byte at SP + 1
as its high half (D2, D8, log 16, 19); one not taken reads nothing. -/
def Obligations.Returns : Prop :=
  (∀ s : State, ∃ t, exec .ret s = .next t ∧
    t.pc = joinBytes ((s.readByte s.sp).2.readByte (s.sp + 1)).1 (s.readByte s.sp).1 ∧ t.sp = s.sp + 2 ∧
    t.draws = ((s.readByte s.sp).2.readByte (s.sp + 1)).2.draws ∧
    SameRegs [] s t ∧ t.flags = s.flags ∧ NothingStored s t ∧ SameControl s t ∧ SameEnv s t ∧
    Listed .ret [0xC9] 10 10) ∧
  (∀ (cc : Cond) (s : State), ∃ t, exec (.returnOf cc) s = .next t ∧
    (CondTrue cc s.flags →
      t.pc = joinBytes ((s.readByte s.sp).2.readByte (s.sp + 1)).1 (s.readByte s.sp).1 ∧ t.sp = s.sp + 2 ∧
      t.draws = ((s.readByte s.sp).2.readByte (s.sp + 1)).2.draws) ∧
    (¬CondTrue cc s.flags → t.pc = s.pc + 1 ∧ t.sp = s.sp ∧ t.draws = s.draws) ∧
    SameRegs [] s t ∧ t.flags = s.flags ∧ NothingStored s t ∧ SameControl s t ∧ SameEnv s t ∧
    Listed (.returnOf cc) [0b11#2 ++ cc.code ++ 0b000#3] 5 11)

/-- RST n (R219): a call of one byte to 8 * n (the spec's decisions D3 and D20, log 17). -/
def Obligations.Restart : Prop :=
  ∀ (n : Fin 8) (s : State), ∃ t, exec (.rstOf n) s = .next t ∧ t.pc.toNat = 8 * n.val ∧ t.sp = s.sp - 2 ∧
    Stored s t [(s.sp - 1, hiByte (s.pc + 1)), (s.sp - 2, loByte (s.pc + 1))] ∧
    SameRegs [] s t ∧ t.flags = s.flags ∧ SameRest s t ∧
    Listed (.rstOf n) [0b11#2 ++ BitVec.ofNat 3 n.val ++ 0b111#3] 11 11

/-! ## Machine control, input and output, stack -/

/-- EI (44_machine_stack_io.md R240) and DI (R241): IE at once; under gk8085 EI also starts, and DI ends, the delay of
one instruction (D14, log 22), on the 8080A variant too (the model's choice, log 34). -/
def Obligations.InterruptSwitch : Prop :=
  (∀ s : State, ∃ t, exec .ei s = .next t ∧ t.ie = true ∧
    (s.platform.irq = .gk8085 → t.eiDelay = true) ∧ (s.platform.irq = .none → t.eiDelay = s.eiDelay) ∧
    SameRegs [] s t ∧ t.flags = s.flags ∧ t.sp = s.sp ∧ t.pc = s.pc + 1 ∧ NothingStored s t ∧
    SameRest { s with ie := true, eiDelay := t.eiDelay } t ∧ Listed .ei [0xFB] 4 4) ∧
  (∀ s : State, ∃ t, exec .di s = .next t ∧ t.ie = false ∧
    (s.platform.irq = .gk8085 → t.eiDelay = false) ∧ (s.platform.irq = .none → t.eiDelay = s.eiDelay) ∧
    SameRegs [] s t ∧ t.flags = s.flags ∧ t.sp = s.sp ∧ t.pc = s.pc + 1 ∧ NothingStored s t ∧
    SameRest { s with ie := false, eiDelay := t.eiDelay } t ∧ Listed .di [0xF3] 4 4)

/-- NOP (R243) and HLT (R242): pc past the instruction, and for HLT the halt (D15, log 21). -/
def Obligations.NopAndHalt : Prop :=
  (∀ s : State, exec .nop s = .next { s with pc := s.pc + 1 } ∧ Listed .nop [0x00] 4 4) ∧
  (∀ s : State, exec .hlt s = .next { s with pc := s.pc + 1, halted := true } ∧ Listed .hlt [0x76] 7 7)

/-- IN (R244) and OUT (R245): the byte read is the next answer of the environment, a free value of which nothing can be
proved (D22, log 9); the byte written is the newest event of the output trace (log 13). -/
def Obligations.InputOutput : Prop :=
  (∀ (port : Byte) (s : State), ∃ t, exec (.inPort port) s = .next t ∧
    t.a = Config.ioByte s.draws port ∧ t.draws = s.draws + 1 ∧ SameRegs [.a] s t ∧ t.flags = s.flags ∧ t.sp = s.sp ∧
    t.pc = s.pc + 2 ∧ NothingStored s t ∧ SameControl s t ∧ SameEnv s t ∧ Listed (.inPort port) [0xDB, port] 10 10) ∧
  (∀ (port : Byte) (s : State), ∃ t, exec (.outPort port) s = .next t ∧
    t.outputs = s.outputs ++ [.port port s.a] ∧ (∀ x : Word, t.peek x = s.peek x) ∧ SameRegs [] s t ∧
    t.flags = s.flags ∧ t.sp = s.sp ∧ t.pc = s.pc + 2 ∧ SameRest s t ∧ Listed (.outPort port) [0xD3, port] 10 10)

/-- PUSH B, D, H and PSW (R246 to R249); the flag byte is S:Z:0:AC:0:P:1:CY (10_state.md R26; D2, D6, log 16, 18). -/
def Obligations.PushPair : Prop :=
  ∀ (rp : StackPair) (s : State), ∃ t hi lo, exec (.pushOf rp) s = .next t ∧
    (rp = .b → hi = s.b ∧ lo = s.c) ∧ (rp = .d → hi = s.d ∧ lo = s.e) ∧ (rp = .h → hi = s.h ∧ lo = s.l) ∧
    (rp = .psw → hi = s.a ∧ lo.toNat = 128 * s.flags.s.toNat + 64 * s.flags.z.toNat + 16 * s.flags.ac.toNat +
      4 * s.flags.p.toNat + 2 + s.flags.cy.toNat) ∧
    Stored s t [(s.sp - 1, hi), (s.sp - 2, lo)] ∧ t.sp = s.sp - 2 ∧
    SameRegs [] s t ∧ t.flags = s.flags ∧ t.pc = s.pc + 1 ∧ SameRest s t ∧
    Listed (.pushOf rp) [0b11#2 ++ rp.code ++ 0b0101#4] 10 10

/-- POP B, D, H and PSW (R250 to R253): POP PSW loads the five flags from bits 7, 6, 4, 2 and 0 of the byte at SP and
ignores the others (D19, log 24). -/
def Obligations.PopPair : Prop :=
  ∀ (rp : StackPair) (s : State), ∃ t lo hi, exec (.popOf rp) s = .next t ∧
    lo = (s.readByte s.sp).1 ∧ hi = ((s.readByte s.sp).2.readByte (s.sp + 1)).1 ∧
    t.draws = ((s.readByte s.sp).2.readByte (s.sp + 1)).2.draws ∧
    (rp = .b → t.b = hi ∧ t.c = lo) ∧ (rp = .d → t.d = hi ∧ t.e = lo) ∧ (rp = .h → t.h = hi ∧ t.l = lo) ∧
    (rp = .psw → t.a = hi ∧ t.flags.s = lo.getLsbD 7 ∧ t.flags.z = lo.getLsbD 6 ∧ t.flags.ac = lo.getLsbD 4 ∧
      t.flags.p = lo.getLsbD 2 ∧ t.flags.cy = lo.getLsbD 0) ∧
    (rp ≠ .psw → t.flags = s.flags) ∧ SameRegs rp.halves s t ∧ t.sp = s.sp + 2 ∧ t.pc = s.pc + 1 ∧
    NothingStored s t ∧ SameControl s t ∧ SameEnv s t ∧
    Listed (.popOf rp) [0b11#2 ++ rp.code ++ 0b0001#4] 10 10

/-- XTHL (R255): both reads, then the write at SP + 1, then the write at SP (D8, log 19); SP does not change. -/
def Obligations.ExchangeStackTop : Prop :=
  ∀ s : State, ∃ t, exec .xthl s = .next t ∧
    t.l = (s.readByte s.sp).1 ∧ t.h = ((s.readByte s.sp).2.readByte (s.sp + 1)).1 ∧
    t.draws = ((s.readByte s.sp).2.readByte (s.sp + 1)).2.draws ∧
    Stored s t [(s.sp + 1, s.h), (s.sp, s.l)] ∧
    SameRegs [.h, .l] s t ∧ t.flags = s.flags ∧ t.sp = s.sp ∧ t.pc = s.pc + 1 ∧ SameControl s t ∧ SameEnv s t ∧
    Listed .xthl [0xE3] 18 18

/-- RIM (R258): bit 7 is the next answer of the serial input, a free value (log 10); bits 6 to 4 the pending bits, the
two levels reading 0 under IRQ_MODEL none; bits 3 to 0 IE and the masks (D18, log 24); the opcode is PRESUMED (log 7). -/
def Obligations.ReadMasks : Prop :=
  ∀ s : State, ∃ t, exec .rim s = .next t ∧
    t.a.getLsbD 7 = Config.sidBit s.draws ∧ t.a.getLsbD 6 = s.r75 ∧
    (s.platform.irq = .none → t.a.getLsbD 5 = false ∧ t.a.getLsbD 4 = false) ∧
    (s.platform.irq = .gk8085 → t.a.getLsbD 5 = s.pinsNow.rimRst65 ∧ t.a.getLsbD 4 = s.pinsNow.rimRst55) ∧
    t.a.getLsbD 3 = s.ie ∧ t.a.getLsbD 2 = s.m75 ∧ t.a.getLsbD 1 = s.m65 ∧ t.a.getLsbD 0 = s.m55 ∧
    t.draws = s.draws + 1 ∧ SameRegs [.a] s t ∧ t.flags = s.flags ∧ t.sp = s.sp ∧ t.pc = s.pc + 1 ∧
    NothingStored s t ∧ SameControl s t ∧ SameEnv s t ∧ Listed .rim [0x20] 4 4

/-- SIM (R259): bit 3 gates the masks, bit 4 clears R75, bit 6 gates SOD (D17, log 24); the opcode is PRESUMED (log 7). -/
def Obligations.SetMasks : Prop :=
  ∀ s : State, ∃ t, exec .sim s = .next t ∧
    (s.a.getLsbD 3 = true → t.m75 = s.a.getLsbD 2 ∧ t.m65 = s.a.getLsbD 1 ∧ t.m55 = s.a.getLsbD 0) ∧
    (s.a.getLsbD 3 = false → t.m75 = s.m75 ∧ t.m65 = s.m65 ∧ t.m55 = s.m55) ∧
    t.r75 = (if s.a.getLsbD 4 then false else s.r75) ∧
    t.sod = (if s.a.getLsbD 6 then s.a.getLsbD 7 else s.sod) ∧
    t.ie = s.ie ∧ t.halted = s.halted ∧ t.eiDelay = s.eiDelay ∧ t.draws = s.draws ∧ SameEnv s t ∧
    SameRegs [] s t ∧ t.flags = s.flags ∧ t.sp = s.sp ∧ t.pc = s.pc + 1 ∧ NothingStored s t ∧ Listed .sim [0x30] 4 4

/-! ## Memory and the stack helpers -/

/-- The stack helpers push16 and pop16 (20_memory.md R45, R46). -/
def Obligations.StackHelpers : Prop :=
  (∀ (s : State) (v : Word), Stored s (s.push16 v) [(s.sp - 1, hiByte v), (s.sp - 2, loByte v)] ∧
    (s.push16 v).sp = s.sp - 2 ∧ SameRegs [] s (s.push16 v) ∧ (s.push16 v).flags = s.flags ∧
    (s.push16 v).pc = s.pc ∧ SameRest s (s.push16 v)) ∧
  (∀ s : State, s.pop16.1 = joinBytes ((s.readByte s.sp).2.readByte (s.sp + 1)).1 (s.readByte s.sp).1 ∧
    s.pop16.2.draws = ((s.readByte s.sp).2.readByte (s.sp + 1)).2.draws ∧ s.pop16.2.sp = s.sp + 2 ∧
    SameRegs [] s s.pop16.2 ∧ s.pop16.2.flags = s.flags ∧ s.pop16.2.pc = s.pc ∧ NothingStored s s.pop16.2 ∧
    SameControl s s.pop16.2 ∧ SameEnv s s.pop16.2)

/-- One byte read and one byte written, by the kind of the address (20_memory.md R42, R43, R50; D11, log 5): a byte
written to RAM is read back, a ROM or absent address drops it, a device turns it into an event; a device or absent
address answers with a free value (log 11). The kind is that of the first region of the platform's map that holds the
address, both ends included, and RAM where no region does: the form of the map is the model's own choice (log 5), the
four kinds and the default RAM are the spec's. -/
def Obligations.MemoryByKind : Prop :=
  ∀ (s : State) (addr : Word) (v : Byte),
    (IsMemory s addr → s.readByte addr = (s.peek addr, s)) ∧
    (s.kindAt addr = .device →
      s.readByte addr = (Config.deviceByte s.draws addr, { s with draws := s.draws + 1 }) ∧
      s.writeByte addr v = { s with outputs := s.outputs ++ [.device addr v] }) ∧
    (s.kindAt addr = .absent →
      s.readByte addr = (Config.absentByte s.draws addr, { s with draws := s.draws + 1 }) ∧ s.writeByte addr v = s) ∧
    (s.kindAt addr = .rom → s.writeByte addr v = s) ∧
    (s.kindAt addr = .ram → ((s.writeByte addr v).readByte addr).1 = v ∧
      ∀ x : Word, x ≠ addr → (s.writeByte addr v).peek x = s.peek x) ∧
    (∀ (before after : List Region) (r : Region), s.platform.memMap = before ++ r :: after →
      (∀ q ∈ before, addr.toNat < q.first ∨ q.last < addr.toNat) → r.first ≤ addr.toNat → addr.toNat ≤ r.last →
      s.kindAt addr = r.kind) ∧
    ((∀ q ∈ s.platform.memMap, addr.toNat < q.first ∨ q.last < addr.toNat) → s.kindAt addr = .ram)

/-! ## Encoding -/

/-- Words written out from the spec's patterns (30_encoding.md R67) decode to the instructions they stand for. That 0x30
is SIM is PRESUMED: the spec's own general knowledge (R69, D1, log 7). -/
def Obligations.DecodedWords : Prop :=
  decode [0b01111000] = .ok (.movAB, []) ∧ decode [0b00110110, 0x7F] = .ok (.mviM 0x7F, []) ∧
  decode [0b00100001, 0xCD, 0xAB] = .ok (.lxiH 0xABCD, []) ∧ decode [0b01110110] = .ok (.hlt, []) ∧
  decode [0b10011110] = .ok (.sbbM, []) ∧ decode [0b11111110, 0x40] = .ok (.cpi 0x40, []) ∧
  decode [0b00111001] = .ok (.dadSp, []) ∧ decode [0b00011111] = .ok (.rar, []) ∧
  decode [0b11101010, 0x50, 0x01] = .ok (.jpe 0x0150, []) ∧ decode [0b11101111] = .ok (.rst5, []) ∧
  decode [0b11110101] = .ok (.pushPsw, []) ∧ decode [0b11010011, 0x01] = .ok (.outPort 0x01, []) ∧
  decode [0b00110000, 0x55] = .ok (.sim, [0x55])

/-- Every well-formed instruction, with every operand, is decoded from its own bytes, whatever follows them. -/
def Obligations.DecodeOfEncode : Prop :=
  ∀ (hasRimSim : Bool) (i : Instr) (rest : List Byte), i.wellFormed hasRimSim = true →
    decodeOn hasRimSim (encode i ++ rest) = .ok (i, rest)

/-- Bytes decode to one instruction only, the one whose bytes they are, and it is well formed. -/
def Obligations.EncodeOfDecode : Prop :=
  ∀ (hasRimSim : Bool) (bytes rest : List Byte) (i : Instr), decodeOn hasRimSim bytes = .ok (i, rest) →
    bytes = encode i ++ rest ∧ i.wellFormed hasRimSim = true

/-- Exactly the unassigned opcode bytes are refused: the decoder rejects them whatever follows, it accepts every other
byte with its operand bytes, and a step that fetches one refuses it by name (30_encoding.md R68; refusing is the spec's
decision D7, log 20). -/
def Obligations.UnassignedRefused : Prop :=
  (∀ (hasRimSim : Bool) (op b2 b3 : Byte) (rest : List Byte),
    (∃ i tail, decodeOn hasRimSim (op :: b2 :: b3 :: rest) = .ok (i, tail)) ↔ op ∉ unassignedCodes hasRimSim) ∧
  (∀ s : State, s.resetIn = false → s.halted = false →
    (s.readByte s.pc).1 ∈ unassignedCodes s.platform.hasRimSim →
    step s = .refused (.unassignedOpcode s.pc (s.readByte s.pc).1))

/-! ## The step -/

/-- A step runs the decoded instruction: exec in the state the fetch leaves, with ei_delay ended (log 22), and then the
boundary (log 23). -/
def Obligations.StepRunsDecoded : Prop :=
  ∀ (s : State) (i : Instr) (rest : List Byte), s.resetIn = false → s.halted = false →
    decodeOn s.platform.hasRimSim s.fetch.1 = .ok (i, rest) →
    step s = andThen (exec i { s.fetch.2 with eiDelay := false }) boundary

/-- Where memory holds the bytes of a well-formed instruction at pc, a step runs that instruction: fetching from memory
changes nothing, and the bytes are taken at pc, pc + 1 and pc + 2 (00_scope.md R4). Two parts are the model's reading:
ei_delay is ended when the instruction begins (log 22, DEDUCED), so `exec` runs in the same state but for ei_delay, and
the boundary after the instruction belongs to the same step (log 23, DESIGN CHOICE). -/
def Obligations.StepOfEncoding : Prop :=
  ∀ (s : State) (i : Instr), s.resetIn = false → s.halted = false → i.wellFormed s.platform.hasRimSim = true →
    (∀ (k : Nat) (v : Byte), (encode i)[k]? = some v →
      IsMemory s (s.pc + BitVec.ofNat 16 k) ∧ s.peek (s.pc + BitVec.ofNat 16 k) = v) →
    step s = andThen (exec i { s with eiDelay := false }) boundary

/-- No step faults, and a step refuses only an unassigned opcode byte or, with INTR accepted, a device instruction other
than RST n and CALL (60_exceptions.md R300, R314). -/
def Obligations.StepOutcomes : Prop :=
  ∀ s : State, (∃ t, step s = .next t) ∨
    (∃ op, step s = .refused (.unassignedOpcode s.pc op) ∧ op = (s.readByte s.pc).1 ∧
      op ∈ unassignedCodes s.platform.hasRimSim) ∨
    (∃ op, step s = .refused (.intrInstruction op) ∧ s.platform.irq = .gk8085 ∧ s.pinsNow.intr = true ∧
      s.pinsNow.intrInstr = .other op)

/-- An instruction that cannot transfer control leaves pc at the next instruction (10_state.md R15). -/
def Obligations.PcAdvances : Prop :=
  ∀ (i : Instr) (s t : State), ¬i.isTransfer → exec i s = .next t →
    t.pc = s.pc + BitVec.ofNat 16 (encode i).length

/-! ## Reset and invariants -/

/-- The values of 70_reset_and_hazards.md R340, which are the spec's decision D12 (log 31): State.reset has them, with the
defaults of the platform parameters (00_scope.md R3, log 5 to 7), and RESET IN gives them to a running or halted machine
in one step, which leaves memory, the output trace and the platform as they were; the registers, SP and the flags are
free values then and nothing is said of them (log 29). For the 8080A variant R340 has PC, IE and halted only: that the
masks, R75, SOD and ei_delay take the same values there is the model's own choice (log 30). -/
def Obligations.ResetState : Prop :=
  (State.reset.pc = 0x0000 ∧ State.reset.ie = false ∧
    State.reset.m55 = true ∧ State.reset.m65 = true ∧ State.reset.m75 = true ∧ State.reset.r75 = false ∧
    State.reset.sod = false ∧ State.reset.halted = false ∧ State.reset.eiDelay = false ∧ State.reset.outputs = [] ∧
    State.reset.platform.irq = .none ∧ State.reset.platform.hasRimSim = true ∧
    ∀ x : Word, State.reset.kindAt x = .ram) ∧
  (∀ s : State, s.resetIn = true → ∃ t, step s = .next t ∧
    t.pc = 0x0000 ∧ t.ie = false ∧ t.m55 = true ∧ t.m65 = true ∧ t.m75 = true ∧ t.r75 = false ∧ t.sod = false ∧
    t.halted = false ∧ t.eiDelay = false ∧ NothingStored s t ∧ t.platform = s.platform ∧ t.schedule = s.schedule ∧
    t.resetIn = false)

/-- The state after reset has the invariant. The canonical form of memory, one part of it, is the model's own choice and
no rule of the spec (log 4); the other part, ei_delay 0 without gk8085, is R33 of 10_state.md (D14). -/
def Obligations.ResetHasInv : Prop := State.reset.Inv

/-- Every step keeps the invariant, from every state that has it: memory stays in canonical form (no two entries of one
address, none outside the address space, none equal to what an unlisted address reads as), and ei_delay stays 0 without
gk8085. The canonical form is the model's own choice, a property of the model and no rule of the spec (log 4); ei_delay
is R33 of 10_state.md (D14). -/
def Obligations.StepKeepsInv : Prop :=
  ∀ s t : State, s.Inv → step s = .next t → t.Inv

/-- A halted machine: without gk8085 a step changes nothing at all; with it a step is the boundary alone, no instruction
is fetched (10_state.md R32, 60_exceptions.md R318, R324; log 21). -/
def Obligations.HaltedStep : Prop :=
  ∀ s : State, s.halted = true → s.resetIn = false →
    (s.platform.irq = .none → step s = .next s) ∧ (s.platform.irq = .gk8085 → step s = boundary s)

/-- A step changes no byte that is not RAM, never takes back an output event, and never changes the platform
(20_memory.md R47, R50). -/
def Obligations.OnlyRamChanges : Prop :=
  ∀ s t : State, step s = .next t →
    (∀ x : Word, s.kindAt x ≠ .ram → t.peek x = s.peek x) ∧ s.outputs <+: t.outputs ∧ t.platform = s.platform

/-! ## Interrupts -/

/-- Taking an interrupt under gk8085 (60_exceptions.md R310 to R314, general knowledge, log 6): the accepted source, the
highest that is eligible, ends a halt, clears IE and, if it is RST 7.5, R75; pc is pushed and takes the entry address;
no register, no flag, no mask and no other latch changes. -/
def Obligations.InterruptTaken : Prop :=
  ∀ (s : State) (src : IntSource) (target : Word), s.platform.irq = .gk8085 → AcceptedAt s src →
    EntersAt s src target → ∃ t, boundary s = .next t ∧
    t.pc = target ∧ t.halted = false ∧ t.ie = false ∧
    t.r75 = (if src = .rst75 then false else r75AtBoundary s) ∧ t.sp = s.sp - 2 ∧
    Stored s t [(s.sp - 1, hiByte s.pc), (s.sp - 2, loByte s.pc)] ∧
    SameRegs [] s t ∧ t.flags = s.flags ∧ t.m55 = s.m55 ∧ t.m65 = s.m65 ∧ t.m75 = s.m75 ∧ t.sod = s.sod ∧
    t.eiDelay = s.eiDelay ∧ t.draws = s.draws ∧ t.platform = s.platform ∧ t.schedule = s.schedule.tail ∧
    t.resetIn = s.resetIn

/-- A boundary at which no interrupt is taken: without gk8085 it changes nothing; with it and no eligible source only
the sample is used up and R75 remembers an edge; an INTR answered with another instruction is refused (R304, R309, R310,
R314, U10; log 6, 28). That on the 8080A variant too INTR is not eligible, and so not taken, while ei_delay is 1 is the
model's own choice (log 34). -/
def Obligations.QuietBoundary : Prop :=
  (∀ s : State, s.platform.irq = .none → boundary s = .next s) ∧
  (∀ s : State, s.platform.irq = .gk8085 → (∀ src : IntSource, ¬EligibleAt s src) →
    boundary s = .next { s with schedule := s.schedule.tail, r75 := r75AtBoundary s }) ∧
  (∀ (s : State) (op : Byte), s.platform.irq = .gk8085 → AcceptedAt s .intr → s.pinsNow.intrInstr = .other op →
    boundary s = .refused (.intrInstruction op))

/-- EI holds every source but TRAP off until the next instruction has completed (70_reset_and_hazards.md R343, log 22):
at the boundary after EI nothing is taken: only the sample is used up and R75 takes its edge; no mask, no latch, not the
halt, the platform or RESET IN changes. The first instruction after it that is not EI ends the delay. That this holds on
the 8080A variant too is the model's own choice (log 34). -/
def Obligations.EnableDelay : Prop :=
  (∀ s : State, s.platform.irq = .gk8085 → RunsInstr s .ei → s.pinsNow.trap = false → ∃ t, step s = .next t ∧
    t.pc = s.pc + 1 ∧ t.ie = true ∧ t.eiDelay = true ∧ t.sp = s.sp ∧ SameRegs [] s t ∧ t.flags = s.flags ∧
    NothingStored s t ∧ t.m55 = s.m55 ∧ t.m65 = s.m65 ∧ t.m75 = s.m75 ∧ t.r75 = r75AtBoundary s ∧ t.sod = s.sod ∧
    t.halted = s.halted ∧ t.platform = s.platform ∧ t.draws = (s.readByte s.pc).2.draws ∧
    t.schedule = s.schedule.tail ∧ t.resetIn = s.resetIn) ∧
  (∀ (s t : State) (i : Instr), RunsInstr s i → i ≠ .ei → step s = .next t → t.eiDelay = false)

/-- The three masks and SOD are written by SIM and by reset alone (R303, 10_state.md R28, R31). -/
def Obligations.MasksOnlyBySim : Prop :=
  ∀ s t : State, step s = .next t → s.resetIn = false → ¬RunsInstr s .sim →
    t.m55 = s.m55 ∧ t.m65 = s.m65 ∧ t.m75 = s.m75 ∧ t.sod = s.sod

/-- Only EI sets IE, only HLT halts, and only RESET IN or an accepted interrupt ends a halt (R302, R318). That on the 8080A
variant too INTR is accepted only when ei_delay is 0 is the model's own choice (log 34). -/
def Obligations.EnableAndHaltSources : Prop :=
  ∀ s t : State, step s = .next t →
    (s.ie = false → t.ie = true → RunsInstr s .ei) ∧
    (s.halted = false → t.halted = true → RunsInstr s .hlt) ∧
    (s.halted = true → t.halted = false →
      s.resetIn = true ∨ (s.platform.irq = .gk8085 ∧ ∃ src target, AcceptedAt s src ∧ EntersAt s src target ∧
        t.pc = target))

/-- Without gk8085 the pins have no influence: two machines that differ only in the pin samples to come take steps that
differ only in them (60_exceptions.md R309, D13). -/
def Obligations.PinsWithoutInfluence : Prop :=
  ∀ (s : State) (pins : List PinSample), s.platform.irq = .none →
    step { s with schedule := pins } = mapNext (fun t => { t with schedule := pins }) (step s)

/-- The 8080A has no masks, no R75 and no SOD: two machines without RIM and SIM that differ only in those take steps
that differ only in them (60_exceptions.md R308, general knowledge, log 30). -/
def Obligations.SmallVariantIgnoresMasks : Prop :=
  ∀ (s : State) (x55 x65 x75 latch out : Bool), s.platform.hasRimSim = false → s.resetIn = false →
    step { s with m55 := x55, m65 := x65, m75 := x75, r75 := latch, sod := out } =
      mapNext (fun t => { t with m55 := x55, m65 := x65, m75 := x75, r75 := latch, sod := out }) (step s)

/-! ## Several instructions -/

/-- Adding two decimal bytes with ADC and DAA is decimal addition, carry in and out included (41_arithmetic.md R136;
the carry out is the spec's decision D5, log 15). -/
def Obligations.DecimalAddition : Prop :=
  ∀ (r : Reg) (n m : Nat) (s : State), n < 100 → m < 100 → s.a = bcd n → s.reg r = bcd m →
    ∃ t, execAll [.aluOf .adc r, .daa] s = .next t ∧ t.a = bcd ((n + m + s.flags.cy.toNat) % 100) ∧
      t.flags.cy = decide (99 < n + m + s.flags.cy.toNat)

/-- What a push or a call puts on a stack in RAM, the matching pop or return takes back (43_branch.md R230,
44_machine_stack_io.md R250). -/
def Obligations.StackRoundTrip : Prop :=
  ∀ s : State, s.kindAt (s.sp - 1) = .ram → s.kindAt (s.sp - 2) = .ram →
    (∀ rp : StackPair, ∃ t, execAll [.pushOf rp, .popOf rp] s = .next t ∧
      SameRegs [] s t ∧ t.flags = s.flags ∧ t.sp = s.sp ∧ t.pc = s.pc + 2) ∧
    (∀ addr : Word, ∃ t, execAll [.call addr, .ret] s = .next t ∧
      SameRegs [] s t ∧ t.flags = s.flags ∧ t.sp = s.sp ∧ t.pc = s.pc + 3)

/-- Eight RLC and eight RRC restore A; nine RAL and nine RAR restore A and CY (42_logical.md R185 to R188); two XTHL on a
stack in RAM restore HL and memory (44_machine_stack_io.md R255). -/
def Obligations.RepeatedExchanges : Prop :=
  (∀ s : State, ∃ t, execAll (List.replicate 8 .rlc) s = .next t ∧ t.a = s.a) ∧
  (∀ s : State, ∃ t, execAll (List.replicate 8 .rrc) s = .next t ∧ t.a = s.a) ∧
  (∀ s : State, execAll (List.replicate 9 .ral) s = .next { s with pc := s.pc + 9 }) ∧
  (∀ s : State, execAll (List.replicate 9 .rar) s = .next { s with pc := s.pc + 9 }) ∧
  (∀ s : State, s.kindAt s.sp = .ram → s.kindAt (s.sp + 1) = .ram → ∃ t, execAll [.xthl, .xthl] s = .next t ∧
    SameRegs [] s t ∧ NothingStored s t)
end

