-- ==== Sys2Proof/Laws/Memory.lean ====
section
/-! SUPPORT. The laws of memory: a read after a write, and the canonical form that every write keeps. -/

namespace Sys2Proof.Machine

theorem Memory.read_erase (m : Memory) (x y : Nat) :
    Memory.read (Memory.erase m x) y = if y = x then Memory.unlisted else Memory.read m y := by
  induction m with
  | nil => simp [Memory.erase, Memory.read]
  | cons c rest ih =>
    obtain ⟨z, w⟩ := c
    by_cases hx : x = z
    · subst hx
      rw [Memory.erase, if_pos rfl, ih]
      by_cases hy : y = x <;> simp [hy, Memory.read]
    · rw [Memory.erase, if_neg hx, Memory.read, ih]
      by_cases hz : y = z
      · subst hz
        simp [Memory.read, Ne.symm hx]
      · simp [Memory.read, hz]

theorem Memory.read_insert (m : Memory) (x y : Nat) (v : Byte) (h : Memory.read m x = Memory.unlisted)
    (hv : ∀ w, (x, w) ∉ m) : Memory.read (Memory.insert m x v) y = if y = x then v else Memory.read m y := by
  induction m with
  | nil => simp [Memory.insert, Memory.read]
  | cons c rest ih =>
    obtain ⟨z, w⟩ := c
    have hzx : x ≠ z := by
      rintro rfl
      exact hv w (by simp)
    by_cases hlt : x < z
    · simp [Memory.insert, hlt, Memory.read]
    · rw [Memory.insert, if_neg hlt, Memory.read]
      rw [Memory.read, if_neg hzx] at h
      rw [ih h (fun u hu => hv u (by simp [hu]))]
      by_cases hyz : y = z
      · subst hyz
        simp [Memory.read, Ne.symm hzx]
      · simp [Memory.read, hyz]

theorem Memory.not_mem_erase (m : Memory) (x : Nat) (w : Byte) : (x, w) ∉ Memory.erase m x := by
  induction m with
  | nil => simp [Memory.erase]
  | cons c rest ih =>
    obtain ⟨z, u⟩ := c
    by_cases hx : x = z
    · simpa [Memory.erase, hx] using hx ▸ ih
    · simp [Memory.erase, hx, ih]

/-- A read after a write gives the byte written at that address and the old byte at every other. -/
theorem Memory.read_write (m : Memory) (x y : Nat) (v : Byte) :
    Memory.read (Memory.write m x v) y = if y = x then v else Memory.read m y := by
  unfold Memory.write
  by_cases hv : v = Memory.unlisted
  · rw [if_pos hv, Memory.read_erase, hv]
  · rw [if_neg hv, Memory.read_insert _ _ _ _ (by simp [Memory.read_erase]) (Memory.not_mem_erase m x),
      Memory.read_erase]
    by_cases hy : y = x <;> simp [hy]

theorem Memory.wfFrom_mono {m : Memory} {lo hi : Nat} (h : lo ≤ hi) (hm : Memory.wfFrom hi m = true) :
    Memory.wfFrom lo m = true := by
  cases m with
  | nil => rfl
  | cons c rest =>
    obtain ⟨z, w⟩ := c
    simp only [Memory.wfFrom, Bool.and_eq_true, decide_eq_true_eq] at hm ⊢
    exact ⟨⟨⟨by omega, hm.1.1.2⟩, hm.1.2⟩, hm.2⟩

theorem Memory.wfFrom_erase {m : Memory} {lo : Nat} (x : Nat) (hm : Memory.wfFrom lo m = true) :
    Memory.wfFrom lo (Memory.erase m x) = true := by
  induction m generalizing lo with
  | nil => rfl
  | cons c rest ih =>
    obtain ⟨z, w⟩ := c
    simp only [Memory.wfFrom, Bool.and_eq_true, decide_eq_true_eq] at hm
    by_cases hx : x = z
    · rw [Memory.erase, if_pos hx]
      exact ih (Memory.wfFrom_mono (by omega) hm.2)
    · rw [Memory.erase, if_neg hx]
      simp only [Memory.wfFrom, Bool.and_eq_true, decide_eq_true_eq]
      exact ⟨hm.1, ih hm.2⟩

theorem Memory.wfFrom_insert {m : Memory} {lo x : Nat} {v : Byte} (hlo : lo ≤ x) (hx : x < 65536)
    (hv : v ≠ Memory.unlisted) (hn : ∀ w, (x, w) ∉ m) (hm : Memory.wfFrom lo m = true) :
    Memory.wfFrom lo (Memory.insert m x v) = true := by
  induction m generalizing lo with
  | nil => simp [Memory.insert, Memory.wfFrom, hlo, hx, hv]
  | cons c rest ih =>
    obtain ⟨z, w⟩ := c
    have hzx : x ≠ z := by
      rintro rfl
      exact hn w (by simp)
    simp only [Memory.wfFrom, Bool.and_eq_true, decide_eq_true_eq] at hm
    by_cases hlt : x < z
    · rw [Memory.insert, if_pos hlt]
      simp only [Memory.wfFrom, Bool.and_eq_true, decide_eq_true_eq]
      exact ⟨⟨⟨hlo, hx⟩, hv⟩, ⟨⟨⟨by omega, hm.1.1.2⟩, hm.1.2⟩, hm.2⟩⟩
    · rw [Memory.insert, if_neg hlt]
      simp only [Memory.wfFrom, Bool.and_eq_true, decide_eq_true_eq]
      exact ⟨hm.1, ih (by omega) (fun u hu => hn u (by simp [hu])) hm.2⟩

/-- Every write inside the address space keeps the canonical form. -/
theorem Memory.wf_write {m : Memory} {x : Nat} (v : Byte) (hx : x < 65536) (hm : Memory.wf m = true) :
    Memory.wf (Memory.write m x v) = true := by
  unfold Memory.wf at *
  unfold Memory.write
  by_cases hv : v = Memory.unlisted
  · rw [if_pos hv]
    exact Memory.wfFrom_erase x hm
  · rw [if_neg hv]
    exact Memory.wfFrom_insert (by omega) hx hv (Memory.not_mem_erase m x) (Memory.wfFrom_erase x hm)

end Sys2Proof.Machine
end

