-- ==== Sys2Proof/Laws/State.lean ====
section
/-! SUPPORT. One lemma per field and per named update of the state: what the update leaves alone, and what the registers
and pairs read after it. -/

namespace Sys2Proof.Machine

section Registers

variable (s : State) (r q : Reg) (v : Byte) (w : Word)

@[simp] theorem setReg_sp : (s.setReg r v).sp = s.sp := by cases r <;> rfl
@[simp] theorem setReg_pc : (s.setReg r v).pc = s.pc := by cases r <;> rfl
@[simp] theorem setReg_flags : (s.setReg r v).flags = s.flags := by cases r <;> rfl
@[simp] theorem setReg_ie : (s.setReg r v).ie = s.ie := by cases r <;> rfl
@[simp] theorem setReg_m55 : (s.setReg r v).m55 = s.m55 := by cases r <;> rfl
@[simp] theorem setReg_m65 : (s.setReg r v).m65 = s.m65 := by cases r <;> rfl
@[simp] theorem setReg_m75 : (s.setReg r v).m75 = s.m75 := by cases r <;> rfl
@[simp] theorem setReg_r75 : (s.setReg r v).r75 = s.r75 := by cases r <;> rfl
@[simp] theorem setReg_sod : (s.setReg r v).sod = s.sod := by cases r <;> rfl
@[simp] theorem setReg_halted : (s.setReg r v).halted = s.halted := by cases r <;> rfl
@[simp] theorem setReg_eiDelay : (s.setReg r v).eiDelay = s.eiDelay := by cases r <;> rfl
@[simp] theorem setReg_mem : (s.setReg r v).mem = s.mem := by cases r <;> rfl
@[simp] theorem setReg_outputs : (s.setReg r v).outputs = s.outputs := by cases r <;> rfl
@[simp] theorem setReg_platform : (s.setReg r v).platform = s.platform := by cases r <;> rfl
@[simp] theorem setReg_draws : (s.setReg r v).draws = s.draws := by cases r <;> rfl
@[simp] theorem setReg_schedule : (s.setReg r v).schedule = s.schedule := by cases r <;> rfl
@[simp] theorem setReg_resetIn : (s.setReg r v).resetIn = s.resetIn := by cases r <;> rfl

theorem reg_setReg : (s.setReg r v).reg q = if q = r then v else s.reg q := by
  cases r <;> cases q <;> rfl

@[simp] theorem reg_setReg_same : (s.setReg r v).reg r = v := by cases r <;> rfl

theorem reg_setReg_other (h : q ≠ r) : (s.setReg r v).reg q = s.reg q := by
  rw [reg_setReg, if_neg h]

end Registers

section Pairs

variable (s : State) (rp : Pair) (sp : StackPair) (w : Word)

@[simp] theorem setPair_pc : (s.setPair rp w).pc = s.pc := by cases rp <;> rfl
@[simp] theorem setPair_flags : (s.setPair rp w).flags = s.flags := by cases rp <;> rfl
@[simp] theorem setPair_ie : (s.setPair rp w).ie = s.ie := by cases rp <;> rfl
@[simp] theorem setPair_m55 : (s.setPair rp w).m55 = s.m55 := by cases rp <;> rfl
@[simp] theorem setPair_m65 : (s.setPair rp w).m65 = s.m65 := by cases rp <;> rfl
@[simp] theorem setPair_m75 : (s.setPair rp w).m75 = s.m75 := by cases rp <;> rfl
@[simp] theorem setPair_r75 : (s.setPair rp w).r75 = s.r75 := by cases rp <;> rfl
@[simp] theorem setPair_sod : (s.setPair rp w).sod = s.sod := by cases rp <;> rfl
@[simp] theorem setPair_halted : (s.setPair rp w).halted = s.halted := by cases rp <;> rfl
@[simp] theorem setPair_eiDelay : (s.setPair rp w).eiDelay = s.eiDelay := by cases rp <;> rfl
@[simp] theorem setPair_mem : (s.setPair rp w).mem = s.mem := by cases rp <;> rfl
@[simp] theorem setPair_outputs : (s.setPair rp w).outputs = s.outputs := by cases rp <;> rfl
@[simp] theorem setPair_platform : (s.setPair rp w).platform = s.platform := by cases rp <;> rfl
@[simp] theorem setPair_draws : (s.setPair rp w).draws = s.draws := by cases rp <;> rfl
@[simp] theorem setPair_schedule : (s.setPair rp w).schedule = s.schedule := by cases rp <;> rfl
@[simp] theorem setPair_resetIn : (s.setPair rp w).resetIn = s.resetIn := by cases rp <;> rfl

@[simp] theorem setStackPair_sp : (s.setStackPair sp w).sp = s.sp := by cases sp <;> rfl
@[simp] theorem setStackPair_pc : (s.setStackPair sp w).pc = s.pc := by cases sp <;> rfl
@[simp] theorem setStackPair_ie : (s.setStackPair sp w).ie = s.ie := by cases sp <;> rfl
@[simp] theorem setStackPair_m55 : (s.setStackPair sp w).m55 = s.m55 := by cases sp <;> rfl
@[simp] theorem setStackPair_m65 : (s.setStackPair sp w).m65 = s.m65 := by cases sp <;> rfl
@[simp] theorem setStackPair_m75 : (s.setStackPair sp w).m75 = s.m75 := by cases sp <;> rfl
@[simp] theorem setStackPair_r75 : (s.setStackPair sp w).r75 = s.r75 := by cases sp <;> rfl
@[simp] theorem setStackPair_sod : (s.setStackPair sp w).sod = s.sod := by cases sp <;> rfl
@[simp] theorem setStackPair_halted : (s.setStackPair sp w).halted = s.halted := by cases sp <;> rfl
@[simp] theorem setStackPair_eiDelay : (s.setStackPair sp w).eiDelay = s.eiDelay := by cases sp <;> rfl
@[simp] theorem setStackPair_mem : (s.setStackPair sp w).mem = s.mem := by cases sp <;> rfl
@[simp] theorem setStackPair_outputs : (s.setStackPair sp w).outputs = s.outputs := by cases sp <;> rfl
@[simp] theorem setStackPair_platform : (s.setStackPair sp w).platform = s.platform := by cases sp <;> rfl
@[simp] theorem setStackPair_draws : (s.setStackPair sp w).draws = s.draws := by cases sp <;> rfl
@[simp] theorem setStackPair_schedule : (s.setStackPair sp w).schedule = s.schedule := by cases sp <;> rfl
@[simp] theorem setStackPair_resetIn : (s.setStackPair sp w).resetIn = s.resetIn := by cases sp <;> rfl

@[simp] theorem hiByte_joinBytes (hi lo : Byte) : hiByte (joinBytes hi lo) = hi := by
  simp only [hiByte, joinBytes]
  exact BitVec.extractLsb'_append_eq_left

@[simp] theorem loByte_joinBytes (hi lo : Byte) : loByte (joinBytes hi lo) = lo := by
  simp only [loByte, joinBytes]
  exact BitVec.extractLsb'_append_eq_right

@[simp] theorem joinBytes_hiByte_loByte (w : Word) : joinBytes (hiByte w) (loByte w) = w := by
  apply BitVec.eq_of_toNat_eq
  have h : w.toNat < 65536 := w.isLt
  rw [joinBytes, BitVec.toNat_append, ← Nat.shiftLeft_add_eq_or_of_lt (loByte w).isLt]
  simp only [hiByte, loByte, BitVec.extractLsb'_toNat, Nat.shiftLeft_eq, Nat.shiftRight_eq_div_pow]
  omega

@[simp] theorem pair_setPair_same : (s.setPair rp w).pair rp = w := by
  cases rp <;> simp [State.setPair, State.pair, State.hl]

end Pairs

section OneAccess

variable (s : State) (a : Word) (v : Byte)

@[simp] theorem readByte_a : (s.readByte a).2.a = s.a := by
  unfold State.readByte; split <;> rfl
@[simp] theorem readByte_b : (s.readByte a).2.b = s.b := by
  unfold State.readByte; split <;> rfl
@[simp] theorem readByte_c : (s.readByte a).2.c = s.c := by
  unfold State.readByte; split <;> rfl
@[simp] theorem readByte_d : (s.readByte a).2.d = s.d := by
  unfold State.readByte; split <;> rfl
@[simp] theorem readByte_e : (s.readByte a).2.e = s.e := by
  unfold State.readByte; split <;> rfl
@[simp] theorem readByte_h : (s.readByte a).2.h = s.h := by
  unfold State.readByte; split <;> rfl
@[simp] theorem readByte_l : (s.readByte a).2.l = s.l := by
  unfold State.readByte; split <;> rfl
@[simp] theorem readByte_sp : (s.readByte a).2.sp = s.sp := by
  unfold State.readByte; split <;> rfl
@[simp] theorem readByte_pc : (s.readByte a).2.pc = s.pc := by
  unfold State.readByte; split <;> rfl
@[simp] theorem readByte_flags : (s.readByte a).2.flags = s.flags := by
  unfold State.readByte; split <;> rfl
@[simp] theorem readByte_ie : (s.readByte a).2.ie = s.ie := by
  unfold State.readByte; split <;> rfl
@[simp] theorem readByte_m55 : (s.readByte a).2.m55 = s.m55 := by
  unfold State.readByte; split <;> rfl
@[simp] theorem readByte_m65 : (s.readByte a).2.m65 = s.m65 := by
  unfold State.readByte; split <;> rfl
@[simp] theorem readByte_m75 : (s.readByte a).2.m75 = s.m75 := by
  unfold State.readByte; split <;> rfl
@[simp] theorem readByte_r75 : (s.readByte a).2.r75 = s.r75 := by
  unfold State.readByte; split <;> rfl
@[simp] theorem readByte_sod : (s.readByte a).2.sod = s.sod := by
  unfold State.readByte; split <;> rfl
@[simp] theorem readByte_halted : (s.readByte a).2.halted = s.halted := by
  unfold State.readByte; split <;> rfl
@[simp] theorem readByte_eiDelay : (s.readByte a).2.eiDelay = s.eiDelay := by
  unfold State.readByte; split <;> rfl
@[simp] theorem readByte_mem : (s.readByte a).2.mem = s.mem := by
  unfold State.readByte; split <;> rfl
@[simp] theorem readByte_outputs : (s.readByte a).2.outputs = s.outputs := by
  unfold State.readByte; split <;> rfl
@[simp] theorem readByte_platform : (s.readByte a).2.platform = s.platform := by
  unfold State.readByte; split <;> rfl
@[simp] theorem readByte_schedule : (s.readByte a).2.schedule = s.schedule := by
  unfold State.readByte; split <;> rfl
@[simp] theorem readByte_resetIn : (s.readByte a).2.resetIn = s.resetIn := by
  unfold State.readByte; split <;> rfl

@[simp] theorem writeByte_a : (s.writeByte a v).a = s.a := by
  unfold State.writeByte; split <;> rfl
@[simp] theorem writeByte_b : (s.writeByte a v).b = s.b := by
  unfold State.writeByte; split <;> rfl
@[simp] theorem writeByte_c : (s.writeByte a v).c = s.c := by
  unfold State.writeByte; split <;> rfl
@[simp] theorem writeByte_d : (s.writeByte a v).d = s.d := by
  unfold State.writeByte; split <;> rfl
@[simp] theorem writeByte_e : (s.writeByte a v).e = s.e := by
  unfold State.writeByte; split <;> rfl
@[simp] theorem writeByte_h : (s.writeByte a v).h = s.h := by
  unfold State.writeByte; split <;> rfl
@[simp] theorem writeByte_l : (s.writeByte a v).l = s.l := by
  unfold State.writeByte; split <;> rfl
@[simp] theorem writeByte_sp : (s.writeByte a v).sp = s.sp := by
  unfold State.writeByte; split <;> rfl
@[simp] theorem writeByte_pc : (s.writeByte a v).pc = s.pc := by
  unfold State.writeByte; split <;> rfl
@[simp] theorem writeByte_flags : (s.writeByte a v).flags = s.flags := by
  unfold State.writeByte; split <;> rfl
@[simp] theorem writeByte_ie : (s.writeByte a v).ie = s.ie := by
  unfold State.writeByte; split <;> rfl
@[simp] theorem writeByte_m55 : (s.writeByte a v).m55 = s.m55 := by
  unfold State.writeByte; split <;> rfl
@[simp] theorem writeByte_m65 : (s.writeByte a v).m65 = s.m65 := by
  unfold State.writeByte; split <;> rfl
@[simp] theorem writeByte_m75 : (s.writeByte a v).m75 = s.m75 := by
  unfold State.writeByte; split <;> rfl
@[simp] theorem writeByte_r75 : (s.writeByte a v).r75 = s.r75 := by
  unfold State.writeByte; split <;> rfl
@[simp] theorem writeByte_sod : (s.writeByte a v).sod = s.sod := by
  unfold State.writeByte; split <;> rfl
@[simp] theorem writeByte_halted : (s.writeByte a v).halted = s.halted := by
  unfold State.writeByte; split <;> rfl
@[simp] theorem writeByte_eiDelay : (s.writeByte a v).eiDelay = s.eiDelay := by
  unfold State.writeByte; split <;> rfl
@[simp] theorem writeByte_platform : (s.writeByte a v).platform = s.platform := by
  unfold State.writeByte; split <;> rfl
@[simp] theorem writeByte_draws : (s.writeByte a v).draws = s.draws := by
  unfold State.writeByte; split <;> rfl
@[simp] theorem writeByte_schedule : (s.writeByte a v).schedule = s.schedule := by
  unfold State.writeByte; split <;> rfl
@[simp] theorem writeByte_resetIn : (s.writeByte a v).resetIn = s.resetIn := by
  unfold State.writeByte; split <;> rfl

end OneAccess

section Words

variable (s : State) (a v : Word)

@[simp] theorem readWord_a : (s.readWord a).2.a = s.a := by simp [State.readWord]
@[simp] theorem readWord_b : (s.readWord a).2.b = s.b := by simp [State.readWord]
@[simp] theorem readWord_c : (s.readWord a).2.c = s.c := by simp [State.readWord]
@[simp] theorem readWord_d : (s.readWord a).2.d = s.d := by simp [State.readWord]
@[simp] theorem readWord_e : (s.readWord a).2.e = s.e := by simp [State.readWord]
@[simp] theorem readWord_h : (s.readWord a).2.h = s.h := by simp [State.readWord]
@[simp] theorem readWord_l : (s.readWord a).2.l = s.l := by simp [State.readWord]
@[simp] theorem readWord_sp : (s.readWord a).2.sp = s.sp := by simp [State.readWord]
@[simp] theorem readWord_pc : (s.readWord a).2.pc = s.pc := by simp [State.readWord]
@[simp] theorem readWord_flags : (s.readWord a).2.flags = s.flags := by simp [State.readWord]
@[simp] theorem readWord_ie : (s.readWord a).2.ie = s.ie := by simp [State.readWord]
@[simp] theorem readWord_m55 : (s.readWord a).2.m55 = s.m55 := by simp [State.readWord]
@[simp] theorem readWord_m65 : (s.readWord a).2.m65 = s.m65 := by simp [State.readWord]
@[simp] theorem readWord_m75 : (s.readWord a).2.m75 = s.m75 := by simp [State.readWord]
@[simp] theorem readWord_r75 : (s.readWord a).2.r75 = s.r75 := by simp [State.readWord]
@[simp] theorem readWord_sod : (s.readWord a).2.sod = s.sod := by simp [State.readWord]
@[simp] theorem readWord_halted : (s.readWord a).2.halted = s.halted := by simp [State.readWord]
@[simp] theorem readWord_eiDelay : (s.readWord a).2.eiDelay = s.eiDelay := by simp [State.readWord]
@[simp] theorem readWord_mem : (s.readWord a).2.mem = s.mem := by simp [State.readWord]
@[simp] theorem readWord_outputs : (s.readWord a).2.outputs = s.outputs := by simp [State.readWord]
@[simp] theorem readWord_platform : (s.readWord a).2.platform = s.platform := by simp [State.readWord]
@[simp] theorem readWord_schedule : (s.readWord a).2.schedule = s.schedule := by simp [State.readWord]
@[simp] theorem readWord_resetIn : (s.readWord a).2.resetIn = s.resetIn := by simp [State.readWord]

@[simp] theorem push16_a : (s.push16 v).a = s.a := by simp [State.push16]
@[simp] theorem push16_b : (s.push16 v).b = s.b := by simp [State.push16]
@[simp] theorem push16_c : (s.push16 v).c = s.c := by simp [State.push16]
@[simp] theorem push16_d : (s.push16 v).d = s.d := by simp [State.push16]
@[simp] theorem push16_e : (s.push16 v).e = s.e := by simp [State.push16]
@[simp] theorem push16_h : (s.push16 v).h = s.h := by simp [State.push16]
@[simp] theorem push16_l : (s.push16 v).l = s.l := by simp [State.push16]
@[simp] theorem push16_pc : (s.push16 v).pc = s.pc := by simp [State.push16]
@[simp] theorem push16_flags : (s.push16 v).flags = s.flags := by simp [State.push16]
@[simp] theorem push16_ie : (s.push16 v).ie = s.ie := by simp [State.push16]
@[simp] theorem push16_m55 : (s.push16 v).m55 = s.m55 := by simp [State.push16]
@[simp] theorem push16_m65 : (s.push16 v).m65 = s.m65 := by simp [State.push16]
@[simp] theorem push16_m75 : (s.push16 v).m75 = s.m75 := by simp [State.push16]
@[simp] theorem push16_r75 : (s.push16 v).r75 = s.r75 := by simp [State.push16]
@[simp] theorem push16_sod : (s.push16 v).sod = s.sod := by simp [State.push16]
@[simp] theorem push16_halted : (s.push16 v).halted = s.halted := by simp [State.push16]
@[simp] theorem push16_eiDelay : (s.push16 v).eiDelay = s.eiDelay := by simp [State.push16]
@[simp] theorem push16_platform : (s.push16 v).platform = s.platform := by simp [State.push16]
@[simp] theorem push16_draws : (s.push16 v).draws = s.draws := by simp [State.push16]
@[simp] theorem push16_schedule : (s.push16 v).schedule = s.schedule := by simp [State.push16]
@[simp] theorem push16_resetIn : (s.push16 v).resetIn = s.resetIn := by simp [State.push16]
@[simp] theorem push16_sp : (s.push16 v).sp = s.sp - 2 := rfl

@[simp] theorem pop16_a : s.pop16.2.a = s.a := by simp [State.pop16]
@[simp] theorem pop16_b : s.pop16.2.b = s.b := by simp [State.pop16]
@[simp] theorem pop16_c : s.pop16.2.c = s.c := by simp [State.pop16]
@[simp] theorem pop16_d : s.pop16.2.d = s.d := by simp [State.pop16]
@[simp] theorem pop16_e : s.pop16.2.e = s.e := by simp [State.pop16]
@[simp] theorem pop16_h : s.pop16.2.h = s.h := by simp [State.pop16]
@[simp] theorem pop16_l : s.pop16.2.l = s.l := by simp [State.pop16]
@[simp] theorem pop16_pc : s.pop16.2.pc = s.pc := by simp [State.pop16]
@[simp] theorem pop16_flags : s.pop16.2.flags = s.flags := by simp [State.pop16]
@[simp] theorem pop16_ie : s.pop16.2.ie = s.ie := by simp [State.pop16]
@[simp] theorem pop16_m55 : s.pop16.2.m55 = s.m55 := by simp [State.pop16]
@[simp] theorem pop16_m65 : s.pop16.2.m65 = s.m65 := by simp [State.pop16]
@[simp] theorem pop16_m75 : s.pop16.2.m75 = s.m75 := by simp [State.pop16]
@[simp] theorem pop16_r75 : s.pop16.2.r75 = s.r75 := by simp [State.pop16]
@[simp] theorem pop16_sod : s.pop16.2.sod = s.sod := by simp [State.pop16]
@[simp] theorem pop16_halted : s.pop16.2.halted = s.halted := by simp [State.pop16]
@[simp] theorem pop16_eiDelay : s.pop16.2.eiDelay = s.eiDelay := by simp [State.pop16]
@[simp] theorem pop16_mem : s.pop16.2.mem = s.mem := by simp [State.pop16]
@[simp] theorem pop16_outputs : s.pop16.2.outputs = s.outputs := by simp [State.pop16]
@[simp] theorem pop16_platform : s.pop16.2.platform = s.platform := by simp [State.pop16]
@[simp] theorem pop16_schedule : s.pop16.2.schedule = s.schedule := by simp [State.pop16]
@[simp] theorem pop16_resetIn : s.pop16.2.resetIn = s.resetIn := by simp [State.pop16]
@[simp] theorem pop16_sp : s.pop16.2.sp = s.sp + 2 := rfl

end Words

end Sys2Proof.Machine
end

