-- ==== Sys2Proof/Laws/Ops.lean ====
section
/-! SUPPORT. One lemma per shared operation that says what it can do: a byte read, a byte written, the stack helpers, the
fetch, the boundary and the step; and that each keeps the canonical form of memory. A proof about an instruction cites
these and does not unfold the operation. -/

namespace Sys2Proof.Machine

section Bytes

variable {s t : State} {a x : Word} {v : Byte}

/-- The first region that holds an address decides its kind, both ends included. -/
theorem kindIn_append {before after : List Region} {r : Region} {n : Nat}
    (hb : ∀ q ∈ before, n < q.first ∨ q.last < n) (h1 : r.first ≤ n) (h2 : n ≤ r.last) :
    kindIn (before ++ r :: after) n = r.kind := by
  induction before with
  | nil => simp [kindIn, h1, h2]
  | cons q qs ih =>
    have hq := hb q (by simp)
    rw [List.cons_append, kindIn, if_neg (by omega), ih fun y hy => hb y (by simp [hy])]

/-- An address in no region is RAM. -/
theorem kindIn_ram {regions : List Region} {n : Nat} (hb : ∀ q ∈ regions, n < q.first ∨ q.last < n) :
    kindIn regions n = .ram := by
  induction regions with
  | nil => rfl
  | cons q qs ih =>
    have hq := hb q (by simp)
    rw [kindIn, if_neg (by omega), ih fun y hy => hb y (by simp [hy])]

/-- The kind of an address is the platform's alone. -/
theorem kindAt_congr (h : t.platform = s.platform) : t.kindAt x = s.kindAt x := by
  simp [State.kindAt, h]

theorem peek_congr (h : t.mem = s.mem) : t.peek x = s.peek x := by
  simp [State.peek, h]

theorem readByte_memory (h : IsMemory s a) : s.readByte a = (s.peek a, s) := by
  rcases h with h | h <;> simp [State.readByte, h]

/-- What a byte read can give: the byte memory holds and no change, or an answer of the environment and one draw. -/
theorem readByte_cases (s : State) (a : Word) :
    (IsMemory s a ∧ s.readByte a = (s.peek a, s)) ∨
    (s.kindAt a = .device ∧ s.readByte a = (Config.deviceByte s.draws a, { s with draws := s.draws + 1 })) ∨
    (s.kindAt a = .absent ∧ s.readByte a = (Config.absentByte s.draws a, { s with draws := s.draws + 1 })) := by
  cases h : s.kindAt a
  · exact .inl ⟨.inl h, readByte_memory (.inl h)⟩
  · exact .inl ⟨.inr h, readByte_memory (.inr h)⟩
  · exact .inr (.inl ⟨rfl, by simp [State.readByte, h]⟩)
  · exact .inr (.inr ⟨rfl, by simp [State.readByte, h]⟩)

/-- A byte read changes the count of draws at most. -/
theorem readByte_state (s : State) (a : Word) : (s.readByte a).2 = { s with draws := (s.readByte a).2.draws } := by
  rcases readByte_cases s a with ⟨_, h⟩ | ⟨_, h⟩ | ⟨_, h⟩ <;> rw [h]

theorem readByte_pair (s : State) (a : Word) : ∃ m d, s.readByte a = (m, { s with draws := d }) :=
  ⟨_, _, Prod.ext rfl (readByte_state s a)⟩

/-- An instruction on M, once the byte at HL is known. -/
theorem viaM_of {s u : State} {m : Byte} {f : Byte → State → State} (h : s.readByte s.hl = (m, u)) :
    viaM f s = .next { f m u with pc := (f m u).pc + 1 } := by
  simp only [viaM, State.readM, done, h]

theorem toNat_word_inj {a x : Word} : x.toNat = a.toNat ↔ x = a := BitVec.toNat_inj

/-- What an address reads as after a byte write: only RAM takes the byte. -/
theorem peek_writeByte : (s.writeByte a v).peek x = if x = a ∧ s.kindAt a = .ram then v else s.peek x := by
  unfold State.writeByte
  cases h : s.kindAt a <;> simp [State.peek, Memory.read_write, toNat_word_inj]

/-- The events after a byte write: a device address puts one out. -/
theorem outputs_writeByte :
    (s.writeByte a v).outputs = s.outputs ++ if s.kindAt a = .device then [.device a v] else [] := by
  unfold State.writeByte
  cases h : s.kindAt a <;> simp

@[simp] theorem kindAt_writeByte : (s.writeByte a v).kindAt x = s.kindAt x := kindAt_congr (by simp)

theorem wf_readByte : Memory.wf (s.readByte a).2.mem = Memory.wf s.mem := by simp

theorem wf_writeByte (h : Memory.wf s.mem = true) : Memory.wf (s.writeByte a v).mem = true := by
  unfold State.writeByte
  cases s.kindAt a
  · exact Memory.wf_write v a.isLt h
  all_goals exact h

/-- One byte stored. -/
theorem stored_writeByte (s : State) (a : Word) (v : Byte) : Stored s (s.writeByte a v) [(a, v)] := by
  refine ⟨fun x => ?_, fun x hx => ?_, ?_⟩
  · rw [peek_writeByte]
    by_cases h : x = a
    · subst h
      simp
    · simp [h, Ne.symm h]
  · have : a ≠ x := by simpa using hx
    rw [peek_writeByte, if_neg (by rintro ⟨rfl, _⟩; exact this rfl)]
  · rw [outputs_writeByte]
    by_cases h : s.kindAt a = .device <;> simp [h]

/-- Storing one more byte. -/
theorem Stored.writeByte {stores : List (Word × Byte)} (h : Stored s t stores) (hp : t.platform = s.platform) :
    Stored s (t.writeByte a v) (stores ++ [(a, v)]) := by
  obtain ⟨h1, h2, h3⟩ := h
  have hk : ∀ y, t.kindAt y = s.kindAt y := fun y => kindAt_congr hp
  refine ⟨fun x => ?_, fun x hx => ?_, ?_⟩
  · rw [peek_writeByte, List.foldl_append, ← h1 x, hk]
    by_cases hxa : x = a
    · subst hxa
      simp
    · simp [hxa, Ne.symm hxa]
  · have : a ≠ x := hx (a, v) (by simp)
    rw [peek_writeByte, if_neg (by rintro ⟨rfl, _⟩; exact this rfl)]
    exact h2 x (fun p hp => hx p (by simp [hp]))
  · rw [outputs_writeByte, h3, hk]
    by_cases h : s.kindAt a = .device <;> simp [h]

/-- A change that keeps memory, the events and the platform keeps what is stored. -/
theorem Stored.congr {u : State} {stores : List (Word × Byte)} (h : Stored s t stores) (hm : u.mem = t.mem)
    (ho : u.outputs = t.outputs) : Stored s u stores :=
  ⟨fun x => (peek_congr hm).trans (h.1 x), fun x hx => (peek_congr hm).trans (h.2.1 x hx), ho.trans h.2.2⟩

/-- The same stores seen from another state with the same memory, events and platform. -/
theorem Stored.of_eq {s' : State} {stores : List (Word × Byte)} (h : Stored s t stores) (hm : s'.mem = s.mem)
    (ho : s'.outputs = s.outputs) (hp : s'.platform = s.platform) : Stored s' t stores := by
  have hk : ∀ y, s'.kindAt y = s.kindAt y := fun y => kindAt_congr hp
  have hx : ∀ y, s'.peek y = s.peek y := fun y => peek_congr hm
  simpa [Stored, hk, hx, ho] using h

theorem nothingStored_of (hm : t.mem = s.mem) (ho : t.outputs = s.outputs) : NothingStored s t :=
  ⟨fun _ => peek_congr hm, ho⟩

end Bytes

section Stack

variable {s : State} {v : Word}

/-- push16 stores the high byte at SP - 1, then the low byte at SP - 2. -/
theorem stored_push16 (s : State) (v : Word) :
    Stored s (s.push16 v) [(s.sp - 1, hiByte v), (s.sp - 2, loByte v)] :=
  ((stored_writeByte s (s.sp - 1) (hiByte v)).writeByte (by simp)).congr rfl rfl

/-- pop16 gives the byte at SP as the low half, the byte at SP + 1 as the high half. -/
theorem pop16_fst : s.pop16.1 = joinBytes ((s.readByte s.sp).2.readByte (s.sp + 1)).1 (s.readByte s.sp).1 := rfl

theorem pop16_draws : s.pop16.2.draws = ((s.readByte s.sp).2.readByte (s.sp + 1)).2.draws := rfl

theorem wf_push16 (h : Memory.wf s.mem = true) : Memory.wf (s.push16 v).mem = true :=
  wf_writeByte (wf_writeByte h)

theorem wf_enterInterrupt {src : IntSource} {target : Word} (h : Memory.wf s.mem = true) :
    Memory.wf (s.enterInterrupt src target).mem = true :=
  wf_push16 (s := { s with halted := false, ie := false, r75 := if src = IntSource.rst75 then false else s.r75 }) h

end Stack

section Fetch

variable {s : State}

/-- Reading bytes for the fetch changes the count of draws at most. -/
theorem readBytes_state (s : State) (a : Word) (n : Nat) :
    (s.readBytes a n).2 = { s with draws := (s.readBytes a n).2.draws } := by
  induction n generalizing s a with
  | zero => rfl
  | succ k ih =>
    rw [State.readBytes]
    exact (ih _ _).trans (by rw [readByte_state s a])

/-- The fetch changes the count of draws at most. -/
theorem fetch_state (s : State) : s.fetch.2 = { s with draws := s.fetch.2.draws } := by
  rw [State.fetch]
  exact (readBytes_state _ _ _).trans (by rw [readByte_state s s.pc])

/-- Bytes of memory are read as they are, and reading them changes nothing. -/
theorem readBytes_memory (a : Word) (n : Nat)
    (h : ∀ k < n, IsMemory s (a + BitVec.ofNat 16 k)) :
    s.readBytes a n = ((List.range n).map (fun k => s.peek (a + BitVec.ofNat 16 k)), s) := by
  induction n generalizing a with
  | zero => rfl
  | succ k ih =>
    have h0 : IsMemory s a := by simpa using h 0 (by omega)
    have hs : ∀ j : Nat, a + 1 + BitVec.ofNat 16 j = a + BitVec.ofNat 16 (j + 1) := by
      intro j
      rw [BitVec.ofNat_add, BitVec.add_assoc, BitVec.add_comm 1 _]
      rfl
    rw [State.readBytes, readByte_memory h0]
    simp only
    rw [ih (a + 1) (fun j hj => hs j ▸ h (j + 1) (by omega))]
    simp only [List.range_succ_eq_map, List.map_cons, List.map_map, Function.comp_def, hs]
    simp

end Fetch

section Boundary

variable {s t : State}

/-- What a boundary can do when it answers a next state. -/
theorem boundary_cases (h : boundary s = .next t) :
    (s.platform.irq = .none ∧ t = s) ∨
    (s.platform.irq = .gk8085 ∧ s.samplePins.highestSource s.pinsNow = none ∧ t = s.samplePins) ∨
    (s.platform.irq = .gk8085 ∧ ∃ src target, s.samplePins.highestSource s.pinsNow = some src ∧
      entryAddress s.pinsNow src = .ok target ∧ t = s.samplePins.enterInterrupt src target) := by
  unfold boundary at h
  split at h
  · rename_i hq
    injection h with h
    exact .inl ⟨hq, h.symm⟩
  · rename_i hq
    simp only at h
    split at h
    · rename_i hh
      injection h with h
      exact .inr (.inl ⟨hq, hh, h.symm⟩)
    · rename_i src hh
      split at h
      · rename_i target ht
        injection h with h
        exact .inr (.inr ⟨hq, src, target, hh, ht, h.symm⟩)
      · cases h

/-- When a boundary refuses. -/
theorem boundary_refused {r : Refusal} (h : boundary s = .refused r) :
    s.platform.irq = .gk8085 ∧ ∃ src, s.samplePins.highestSource s.pinsNow = some src ∧
      entryAddress s.pinsNow src = .error r := by
  unfold boundary at h
  split at h
  · cases h
  · rename_i hq
    simp only at h
    split at h
    · cases h
    · rename_i src hh
      split at h
      · cases h
      · rename_i r' hr
        injection h with h
        exact ⟨hq, src, hh, h ▸ hr⟩

/-- A boundary never faults. -/
theorem boundary_not_fault {f : Fault} : boundary s ≠ .fault f := nomatch f

/-- The source a boundary accepts is eligible, and none of higher priority is. -/
theorem highestSource_some {p : PinSample} {src : IntSource} :
    s.highestSource p = some src ↔
      s.eligible p src = true ∧ ∀ other : IntSource, other.rank < src.rank → s.eligible p other = false := by
  have hall : ∀ q : IntSource → Prop, (∀ o, q o) ↔ (q .trap ∧ q .rst75 ∧ q .rst65 ∧ q .rst55 ∧ q .intr) :=
    fun q => ⟨fun h => ⟨h _, h _, h _, h _, h _⟩, fun ⟨a, b, c, d, e⟩ o => by cases o <;> assumption⟩
  rw [hall, State.highestSource]
  generalize s.eligible p = e
  rcases h1 : e .trap <;> rcases h2 : e .rst75 <;> rcases h3 : e .rst65 <;> rcases h4 : e .rst55 <;>
    rcases h5 : e .intr <;> cases src <;> simp_all [IntSource.rank]

theorem highestSource_none {p : PinSample} :
    s.highestSource p = none ↔ ∀ src : IntSource, s.eligible p src = false := by
  have hall : ∀ q : IntSource → Prop, (∀ o, q o) ↔ (q .trap ∧ q .rst75 ∧ q .rst65 ∧ q .rst55 ∧ q .intr) :=
    fun q => ⟨fun h => ⟨h _, h _, h _, h _, h _⟩, fun ⟨a, b, c, d, e⟩ o => by cases o <;> assumption⟩
  rw [hall, State.highestSource]
  generalize s.eligible p = e
  rcases h1 : e .trap <;> rcases h2 : e .rst75 <;> rcases h3 : e .rst65 <;> rcases h4 : e .rst55 <;>
    rcases h5 : e .intr <;> simp

/-- Eligibility after the pins are sampled is eligibility in the terms claims use. -/
theorem eligible_samplePins (src : IntSource) :
    s.samplePins.eligible s.pinsNow src = true ↔ EligibleAt s src := by
  cases src <;>
    simp [State.eligible, State.samplePins, EligibleAt, r75AtBoundary, and_assoc]

/-- The boundary leaves these alone, and the pins to come lose their first sample under gk8085. -/
theorem boundary_frame (h : boundary s = .next t) :
    t.a = s.a ∧ t.b = s.b ∧ t.c = s.c ∧ t.d = s.d ∧ t.e = s.e ∧ t.h = s.h ∧ t.l = s.l ∧ t.flags = s.flags ∧
    t.m55 = s.m55 ∧ t.m65 = s.m65 ∧ t.m75 = s.m75 ∧ t.sod = s.sod ∧ t.eiDelay = s.eiDelay ∧
    t.platform = s.platform ∧ t.draws = s.draws ∧ t.resetIn = s.resetIn := by
  rcases boundary_cases h with ⟨_, rfl⟩ | ⟨_, _, rfl⟩ | ⟨_, src, target, _, _, rfl⟩ <;>
    simp [State.samplePins, State.enterInterrupt]

theorem wf_boundary (h : boundary s = .next t) (hw : Memory.wf s.mem = true) : Memory.wf t.mem = true := by
  rcases boundary_cases h with ⟨_, rfl⟩ | ⟨_, _, rfl⟩ | ⟨_, src, target, _, _, rfl⟩
  · exact hw
  · exact hw
  · exact wf_enterInterrupt (s := s.samplePins) hw

end Boundary

section Step

variable {s t : State}

theorem fetchInstr_ok {i : Instr} {u : State} (h : s.fetchInstr = .ok (i, u)) :
    (∃ rest, decodeOn s.platform.hasRimSim s.fetch.1 = .ok (i, rest)) ∧
      u = { s with draws := s.fetch.2.draws, eiDelay := false } := by
  unfold State.fetchInstr at h
  simp only at h
  split at h
  · rename_i j rest hj
    injection h with h
    injection h with h1 h2
    refine ⟨⟨rest, h1 ▸ hj⟩, ?_⟩
    rw [← h2, State.beginInstr, fetch_state]
  · cases h

/-- What a step can do when it answers a next state: RESET IN, the boundary of a halted machine, or an instruction and
the boundary after it. -/
theorem step_cases (h : step s = .next t) :
    (s.resetIn = true ∧ t = s.applyReset) ∨
    (s.resetIn = false ∧ s.halted = true ∧ boundary s = .next t) ∨
    (∃ i u, RunsInstr s i ∧ exec i { s with draws := s.fetch.2.draws, eiDelay := false } = .next u ∧
      boundary u = .next t) := by
  unfold step at h
  split at h
  · rename_i hr
    injection h with h
    exact .inl ⟨hr, h.symm⟩
  · rename_i hr
    have hr : s.resetIn = false := by simpa using hr
    split at h
    · rename_i hh
      exact .inr (.inl ⟨hr, hh, h⟩)
    · rename_i hh
      have hh : s.halted = false := by simpa using hh
      split at h
      · rename_i i u hf
        obtain ⟨hd, rfl⟩ := fetchInstr_ok hf
        unfold andThen at h
        split at h
        · rename_i w hw
          exact .inr (.inr ⟨i, w, ⟨hr, hh, hd⟩, hw, h⟩)
        · cases h
        · cases h
      · cases h

end Step

end Sys2Proof.Machine
end

