-- ==== Sys2Proof/Laws/Exec.lean ====
section
/-! SUPPORT. Every instruction completes, and what all of them but EI, DI, HLT and SIM leave alone; so that a proof about
the step does not take the instructions apart one by one. -/

namespace Sys2Proof.Machine

/-- What an instruction that is none of EI, DI, HLT and SIM keeps: the platform and the pins, the interrupt state, the
canonical form of memory, every byte that is not RAM, and the events already put out. -/
structure Keeps (s t : State) : Prop where
  platform : t.platform = s.platform
  schedule : t.schedule = s.schedule
  resetIn  : t.resetIn = s.resetIn
  ie       : t.ie = s.ie
  m55      : t.m55 = s.m55
  m65      : t.m65 = s.m65
  m75      : t.m75 = s.m75
  r75      : t.r75 = s.r75
  sod      : t.sod = s.sod
  halted   : t.halted = s.halted
  eiDelay  : t.eiDelay = s.eiDelay
  wf       : Memory.wf s.mem = true → Memory.wf t.mem = true
  peek     : ∀ x : Word, s.kindAt x ≠ .ram → t.peek x = s.peek x
  outputs  : s.outputs <+: t.outputs

theorem Keeps.refl (s : State) : Keeps s s :=
  ⟨rfl, rfl, rfl, rfl, rfl, rfl, rfl, rfl, rfl, rfl, rfl, id, fun _ _ => rfl, List.prefix_rfl⟩

/-- Any change of the registers, SP, pc, the flags and the count of draws. -/
theorem Keeps.regs {s u : State} (h : Keeps s u) (a b c d e hh l : Byte) (sp pc : Word) (f : Flags) (n : Nat) :
    Keeps s { u with a := a, b := b, c := c, d := d, e := e, h := hh, l := l, sp := sp, pc := pc, flags := f, draws := n } :=
  ⟨h.platform, h.schedule, h.resetIn, h.ie, h.m55, h.m65, h.m75, h.r75, h.sod, h.halted, h.eiDelay, h.wf, h.peek, h.outputs⟩

theorem Keeps.setReg {s u : State} (h : Keeps s u) (r : Reg) (v : Byte) : Keeps s (u.setReg r v) := by
  cases r <;> exact h.regs _ _ _ _ _ _ _ _ _ _ _

theorem Keeps.setPair {s u : State} (h : Keeps s u) (rp : Pair) (v : Word) : Keeps s (u.setPair rp v) := by
  cases rp <;> exact h.regs _ _ _ _ _ _ _ _ _ _ _

theorem Keeps.setStackPair {s u : State} (h : Keeps s u) (rp : StackPair) (v : Word) :
    Keeps s (u.setStackPair rp v) := by
  cases rp <;> exact h.regs _ _ _ _ _ _ _ _ _ _ _

theorem Keeps.readByte {s u : State} (h : Keeps s u) (a : Word) : Keeps s (u.readByte a).2 := by
  rw [readByte_state]
  exact h.regs _ _ _ _ _ _ _ _ _ _ _

theorem Keeps.readM {s u : State} (h : Keeps s u) : Keeps s u.readM.2 := h.readByte u.hl

theorem Keeps.readWord {s u : State} (h : Keeps s u) (a : Word) : Keeps s (u.readWord a).2 :=
  (h.readByte a).readByte (a + 1)

theorem Keeps.pop16 {s u : State} (h : Keeps s u) : Keeps s u.pop16.2 :=
  (h.readWord u.sp).regs _ _ _ _ _ _ _ _ _ _ _

theorem Keeps.writeByte {s u : State} (h : Keeps s u) (a : Word) (v : Byte) : Keeps s (u.writeByte a v) where
  platform := by simp [h.platform]
  schedule := by simp [h.schedule]
  resetIn := by simp [h.resetIn]
  ie := by simp [h.ie]
  m55 := by simp [h.m55]
  m65 := by simp [h.m65]
  m75 := by simp [h.m75]
  r75 := by simp [h.r75]
  sod := by simp [h.sod]
  halted := by simp [h.halted]
  eiDelay := by simp [h.eiDelay]
  wf := fun hw => wf_writeByte (h.wf hw)
  peek := fun x hx => by
    rw [peek_writeByte, if_neg, h.peek x hx]
    rintro ⟨rfl, hk⟩
    exact hx ((kindAt_congr h.platform).symm.trans hk)
  outputs := by
    rw [outputs_writeByte]
    exact h.outputs.trans (List.prefix_append _ _)

theorem Keeps.push16 {s u : State} (h : Keeps s u) (v : Word) : Keeps s (u.push16 v) :=
  ((h.writeByte (u.sp - 1) (hiByte v)).writeByte (u.sp - 2) (loByte v)).regs _ _ _ _ _ _ _ _ _ _ _

theorem Keeps.ioWrite {s u : State} (h : Keeps s u) (port v : Byte) : Keeps s (u.ioWrite port v) :=
  ⟨h.platform, h.schedule, h.resetIn, h.ie, h.m55, h.m65, h.m75, h.r75, h.sod, h.halted, h.eiDelay, h.wf, h.peek,
    h.outputs.trans (List.prefix_append _ _)⟩

/-- An outcome is a next state that keeps what `Keeps` says. -/
def CompletesKeeping (s : State) (o : Host.Outcome State Fault Refusal) : Prop := ∃ t, o = .next t ∧ Keeps s t

theorem completes_done {s u : State} {n : Word} (h : Keeps s u) : CompletesKeeping s (done n u) :=
  ⟨_, rfl, h.regs _ _ _ _ _ _ _ _ _ _ _⟩

theorem completes_viaM {s : State} {f : Byte → State → State} (h : ∀ m u, Keeps s u → Keeps s (f m u)) :
    CompletesKeeping s (viaM f s) :=
  completes_done (h _ _ (Keeps.refl s).readM)

theorem completes_jumpIf (s : State) (taken : Bool) (addr : Word) : CompletesKeeping s (jumpIf taken addr s) := by
  cases taken
  · exact completes_done (Keeps.refl s)
  · exact ⟨_, rfl, (Keeps.refl s).regs _ _ _ _ _ _ _ _ _ _ _⟩

theorem completes_callIf (s : State) (taken : Bool) (addr : Word) : CompletesKeeping s (callIf taken addr s) := by
  cases taken
  · exact completes_done (Keeps.refl s)
  · exact ⟨_, rfl, ((Keeps.refl s).push16 (s.pc + 3)).regs _ _ _ _ _ _ _ _ _ _ _⟩

theorem completes_returnIf (s : State) (taken : Bool) : CompletesKeeping s (returnIf taken s) := by
  cases taken
  · exact completes_done (Keeps.refl s)
  · exact ⟨_, rfl, (Keeps.refl s).pop16.regs _ _ _ _ _ _ _ _ _ _ _⟩

theorem completes_restart (s : State) (n : Fin 8) : CompletesKeeping s (restart n s) :=
  ⟨_, rfl, ((Keeps.refl s).push16 (s.pc + 1)).regs _ _ _ _ _ _ _ _ _ _ _⟩

theorem completes_regs (s : State) (n : Word) (a b c d e hh l : Byte) (sp : Word) (f : Flags) (k : Nat) :
    CompletesKeeping s (done n { s with a := a, b := b, c := c, d := d, e := e, h := hh, l := l, sp := sp, flags := f, draws := k }) :=
  completes_done ((Keeps.refl s).regs _ _ _ _ _ _ _ _ _ _ _)

theorem completes_loadA (s : State) (n addr : Word) : CompletesKeeping s (loadA n addr s) :=
  completes_done (((Keeps.refl s).readByte addr).setReg _ _)

theorem completes_storeA (s : State) (n addr : Word) : CompletesKeeping s (storeA n addr s) :=
  completes_done ((Keeps.refl s).writeByte addr _)

theorem completes_popInto (s : State) (rp : StackPair) : CompletesKeeping s (popInto rp s) :=
  completes_done ((Keeps.refl s).pop16.setStackPair rp _)

/-- Every instruction that is none of EI, DI, HLT and SIM completes and keeps what `Keeps` says. -/
theorem exec_keeps (i : Instr) (s : State) (h : i ∉ [Instr.ei, .di, .hlt, .sim]) : CompletesKeeping s (exec i s) :=
  match i, h with
  | .lxiB _, _ | .lxiD _, _ | .lxiH _, _ | .lxiSp _, _ | .inxB, _ | .dcxB, _ | .inxD, _ | .dcxD, _ | .inxH, _
  | .dcxH, _ | .inxSp, _ | .dcxSp, _ => completes_done ((Keeps.refl s).setPair _ _)
  | .mviB _, _ | .mviC _, _ | .mviD _, _ | .mviE _, _ | .mviH _, _ | .mviL _, _ | .mviA _, _ | .movBB, _
  | .movBC, _ | .movBD, _ | .movBE, _ | .movBH, _ | .movBL, _ | .movBA, _ | .movCB, _ | .movCC, _ | .movCD, _
  | .movCE, _ | .movCH, _ | .movCL, _ | .movCA, _ | .movDB, _ | .movDC, _ | .movDD, _ | .movDE, _ | .movDH, _
  | .movDL, _ | .movDA, _ | .movEB, _ | .movEC, _ | .movED, _ | .movEE, _ | .movEH, _ | .movEL, _ | .movEA, _
  | .movHB, _ | .movHC, _ | .movHD, _ | .movHE, _ | .movHH, _ | .movHL, _ | .movHA, _ | .movLB, _ | .movLC, _
  | .movLD, _ | .movLE, _ | .movLH, _ | .movLL, _ | .movLA, _ | .movAB, _ | .movAC, _ | .movAD, _ | .movAE, _
  | .movAH, _ | .movAL, _ | .movAA, _ => completes_done ((Keeps.refl s).setReg _ _)
  | .shld _, _ => completes_done (((Keeps.refl s).writeByte _ _).writeByte _ _)
  | .lhld _, _ => completes_done (((Keeps.refl s).readWord _).setPair _ _)
  | .sta _, _ | .staxB, _ | .staxD, _ => completes_storeA s _ _
  | .mviM _, _ | .movMB, _ | .movMC, _ | .movMD, _ | .movME, _ | .movMH, _ | .movML, _ | .movMA, _
      => completes_done ((Keeps.refl s).writeByte _ _)
  | .lda _, _ | .ldaxB, _ | .ldaxD, _ => completes_loadA s _ _
  | .jnz addr, _ | .jz addr, _ | .jnc addr, _ | .jc addr, _ | .jpo addr, _ | .jpe addr, _ | .jp addr, _
  | .jm addr, _ => completes_jumpIf s _ addr
  | .jmp addr, _ => completes_jumpIf s true addr
  | .cnz addr, _ | .cz addr, _ | .cnc addr, _ | .cc addr, _ | .cpo addr, _ | .cpe addr, _ | .cp addr, _
  | .cm addr, _ => completes_callIf s _ addr
  | .adi _, _ | .aci _, _ | .sui _, _ | .sbi _, _ | .ani _, _ | .xri _, _ | .ori _, _ | .cpi _, _ | .nop, _
  | .rlc, _ | .rrc, _ | .ral, _ | .rar, _ | .rim, _ | .daa, _ | .cma, _ | .stc, _ | .cmc, _ | .addB, _
  | .addC, _ | .addD, _ | .addE, _ | .addH, _ | .addL, _ | .addA, _ | .adcB, _ | .adcC, _ | .adcD, _
  | .adcE, _ | .adcH, _ | .adcL, _ | .adcA, _ | .subB, _ | .subC, _ | .subD, _ | .subE, _ | .subH, _
  | .subL, _ | .subA, _ | .sbbB, _ | .sbbC, _ | .sbbD, _ | .sbbE, _ | .sbbH, _ | .sbbL, _ | .sbbA, _
  | .anaB, _ | .anaC, _ | .anaD, _ | .anaE, _ | .anaH, _ | .anaL, _ | .anaA, _ | .xraB, _ | .xraC, _
  | .xraD, _ | .xraE, _ | .xraH, _ | .xraL, _ | .xraA, _ | .oraB, _ | .oraC, _ | .oraD, _ | .oraE, _
  | .oraH, _ | .oraL, _ | .oraA, _ | .cmpB, _ | .cmpC, _ | .cmpD, _ | .cmpE, _ | .cmpH, _ | .cmpL, _
  | .cmpA, _ | .xchg, _ | .sphl, _ => completes_done ((Keeps.refl s).regs _ _ _ _ _ _ _ _ _ _ _)
  | .call addr, _ => completes_callIf s true addr
  | .outPort _, _ => completes_done ((Keeps.refl s).ioWrite _ _)
  | .inPort _, _ => completes_done (((Keeps.refl s).regs _ _ _ _ _ _ _ _ _ _ _).setReg _ _)
  | .inrB, _ | .dcrB, _ | .inrC, _ | .dcrC, _ | .inrD, _ | .dcrD, _ | .inrE, _ | .dcrE, _ | .inrH, _
  | .dcrH, _ | .inrL, _ | .dcrL, _ | .inrA, _ | .dcrA, _
      => completes_done (((Keeps.refl s).setReg _ _).regs _ _ _ _ _ _ _ _ _ _ _)
  | .dadB, _ | .dadD, _ | .dadH, _ | .dadSp, _
      => completes_done (((Keeps.refl s).setPair _ _).regs _ _ _ _ _ _ _ _ _ _ _)
  | .inrM, _ | .dcrM, _ => completes_done (((Keeps.refl s).readM.writeByte _ _).regs _ _ _ _ _ _ _ _ _ _ _)
  | .movBM, _ | .movCM, _ | .movDM, _ | .movEM, _ | .movHM, _ | .movLM, _ | .movAM, _
      => completes_done ((Keeps.refl s).readM.setReg _ _)
  | .addM, _ | .adcM, _ | .subM, _ | .sbbM, _ | .anaM, _ | .xraM, _ | .oraM, _ | .cmpM, _
      => completes_viaM (fun m u hu => hu.regs _ _ _ _ _ _ _ _ _ _ _)
  | .rnz, _ | .rz, _ | .rnc, _ | .rc, _ | .rpo, _ | .rpe, _ | .rp, _ | .rm, _ => completes_returnIf s _
  | .popB, _ | .popD, _ | .popH, _ | .popPsw, _ => completes_popInto s _
  | .pushB, _ | .pushD, _ | .pushH, _ | .pushPsw, _ => completes_done ((Keeps.refl s).push16 _)
  | .rst0, _ | .rst1, _ | .rst2, _ | .rst3, _ | .rst4, _ | .rst5, _ | .rst6, _ | .rst7, _ => completes_restart s _
  | .ret, _ => completes_returnIf s true
  | .xthl, _ => completes_done (((((Keeps.refl s).readWord _).writeByte _ _).writeByte _ _).setPair _ _)
  | .pchl, _ => ⟨_, rfl, (Keeps.refl s).regs _ _ _ _ _ _ _ _ _ _ _⟩
  | .ei, h | .di, h | .hlt, h | .sim, h => absurd h (by decide)

theorem exec_completes (i : Instr) (s : State) : ∃ t, exec i s = .next t := by
  by_cases h : i ∉ [Instr.ei, .di, .hlt, .sim]
  · exact (exec_keeps i s h).imp fun _ ht => ht.1
  · simp only [List.mem_cons, List.not_mem_nil, or_false, not_not] at h
    rcases h with rfl | rfl | rfl | rfl <;> exact ⟨_, rfl⟩

end Sys2Proof.Machine
end

