-- ==== Sys2Proof/Laws/PerInstr.lean ====
section
/-! SUPPORT. Facts about every instruction as syntax, one lemma per constructor. -/

/-- The length the opcode byte gives (30_encoding.md R60) is the number of bytes of the encoding. -/
def Sys2Proof.Laws.EncodeLength.Statement (i : Sys2Proof.Instr) : Prop :=
  Sys2Proof.instrLen ((Sys2Proof.encode i).headD 0) = (Sys2Proof.encode i).length

namespace Sys2Proof.Laws.EncodeLength

theorem nop : Statement .nop := (by decide : instrLen 0x00 = 1)
theorem lxiB (d16 : Word) : Statement (.lxiB d16) := (by decide : instrLen 0x01 = 3)
theorem staxB : Statement .staxB := (by decide : instrLen 0x02 = 1)
theorem inxB : Statement .inxB := (by decide : instrLen 0x03 = 1)
theorem inrB : Statement .inrB := (by decide : instrLen 0x04 = 1)
theorem dcrB : Statement .dcrB := (by decide : instrLen 0x05 = 1)
theorem mviB (d8 : Byte) : Statement (.mviB d8) := (by decide : instrLen 0x06 = 2)
theorem rlc : Statement .rlc := (by decide : instrLen 0x07 = 1)
theorem dadB : Statement .dadB := (by decide : instrLen 0x09 = 1)
theorem ldaxB : Statement .ldaxB := (by decide : instrLen 0x0A = 1)
theorem dcxB : Statement .dcxB := (by decide : instrLen 0x0B = 1)
theorem inrC : Statement .inrC := (by decide : instrLen 0x0C = 1)
theorem dcrC : Statement .dcrC := (by decide : instrLen 0x0D = 1)
theorem mviC (d8 : Byte) : Statement (.mviC d8) := (by decide : instrLen 0x0E = 2)
theorem rrc : Statement .rrc := (by decide : instrLen 0x0F = 1)
theorem lxiD (d16 : Word) : Statement (.lxiD d16) := (by decide : instrLen 0x11 = 3)
theorem staxD : Statement .staxD := (by decide : instrLen 0x12 = 1)
theorem inxD : Statement .inxD := (by decide : instrLen 0x13 = 1)
theorem inrD : Statement .inrD := (by decide : instrLen 0x14 = 1)
theorem dcrD : Statement .dcrD := (by decide : instrLen 0x15 = 1)
theorem mviD (d8 : Byte) : Statement (.mviD d8) := (by decide : instrLen 0x16 = 2)
theorem ral : Statement .ral := (by decide : instrLen 0x17 = 1)
theorem dadD : Statement .dadD := (by decide : instrLen 0x19 = 1)
theorem ldaxD : Statement .ldaxD := (by decide : instrLen 0x1A = 1)
theorem dcxD : Statement .dcxD := (by decide : instrLen 0x1B = 1)
theorem inrE : Statement .inrE := (by decide : instrLen 0x1C = 1)
theorem dcrE : Statement .dcrE := (by decide : instrLen 0x1D = 1)
theorem mviE (d8 : Byte) : Statement (.mviE d8) := (by decide : instrLen 0x1E = 2)
theorem rar : Statement .rar := (by decide : instrLen 0x1F = 1)
theorem rim : Statement .rim := (by decide : instrLen 0x20 = 1)
theorem lxiH (d16 : Word) : Statement (.lxiH d16) := (by decide : instrLen 0x21 = 3)
theorem shld (addr : Word) : Statement (.shld addr) := (by decide : instrLen 0x22 = 3)
theorem inxH : Statement .inxH := (by decide : instrLen 0x23 = 1)
theorem inrH : Statement .inrH := (by decide : instrLen 0x24 = 1)
theorem dcrH : Statement .dcrH := (by decide : instrLen 0x25 = 1)
theorem mviH (d8 : Byte) : Statement (.mviH d8) := (by decide : instrLen 0x26 = 2)
theorem daa : Statement .daa := (by decide : instrLen 0x27 = 1)
theorem dadH : Statement .dadH := (by decide : instrLen 0x29 = 1)
theorem lhld (addr : Word) : Statement (.lhld addr) := (by decide : instrLen 0x2A = 3)
theorem dcxH : Statement .dcxH := (by decide : instrLen 0x2B = 1)
theorem inrL : Statement .inrL := (by decide : instrLen 0x2C = 1)
theorem dcrL : Statement .dcrL := (by decide : instrLen 0x2D = 1)
theorem mviL (d8 : Byte) : Statement (.mviL d8) := (by decide : instrLen 0x2E = 2)
theorem cma : Statement .cma := (by decide : instrLen 0x2F = 1)
theorem sim : Statement .sim := (by decide : instrLen 0x30 = 1)
theorem lxiSp (d16 : Word) : Statement (.lxiSp d16) := (by decide : instrLen 0x31 = 3)
theorem sta (addr : Word) : Statement (.sta addr) := (by decide : instrLen 0x32 = 3)
theorem inxSp : Statement .inxSp := (by decide : instrLen 0x33 = 1)
theorem inrM : Statement .inrM := (by decide : instrLen 0x34 = 1)
theorem dcrM : Statement .dcrM := (by decide : instrLen 0x35 = 1)
theorem mviM (d8 : Byte) : Statement (.mviM d8) := (by decide : instrLen 0x36 = 2)
theorem stc : Statement .stc := (by decide : instrLen 0x37 = 1)
theorem dadSp : Statement .dadSp := (by decide : instrLen 0x39 = 1)
theorem lda (addr : Word) : Statement (.lda addr) := (by decide : instrLen 0x3A = 3)
theorem dcxSp : Statement .dcxSp := (by decide : instrLen 0x3B = 1)
theorem inrA : Statement .inrA := (by decide : instrLen 0x3C = 1)
theorem dcrA : Statement .dcrA := (by decide : instrLen 0x3D = 1)
theorem mviA (d8 : Byte) : Statement (.mviA d8) := (by decide : instrLen 0x3E = 2)
theorem cmc : Statement .cmc := (by decide : instrLen 0x3F = 1)
theorem movBB : Statement .movBB := (by decide : instrLen 0x40 = 1)
theorem movBC : Statement .movBC := (by decide : instrLen 0x41 = 1)
theorem movBD : Statement .movBD := (by decide : instrLen 0x42 = 1)
theorem movBE : Statement .movBE := (by decide : instrLen 0x43 = 1)
theorem movBH : Statement .movBH := (by decide : instrLen 0x44 = 1)
theorem movBL : Statement .movBL := (by decide : instrLen 0x45 = 1)
theorem movBM : Statement .movBM := (by decide : instrLen 0x46 = 1)
theorem movBA : Statement .movBA := (by decide : instrLen 0x47 = 1)
theorem movCB : Statement .movCB := (by decide : instrLen 0x48 = 1)
theorem movCC : Statement .movCC := (by decide : instrLen 0x49 = 1)
theorem movCD : Statement .movCD := (by decide : instrLen 0x4A = 1)
theorem movCE : Statement .movCE := (by decide : instrLen 0x4B = 1)
theorem movCH : Statement .movCH := (by decide : instrLen 0x4C = 1)
theorem movCL : Statement .movCL := (by decide : instrLen 0x4D = 1)
theorem movCM : Statement .movCM := (by decide : instrLen 0x4E = 1)
theorem movCA : Statement .movCA := (by decide : instrLen 0x4F = 1)
theorem movDB : Statement .movDB := (by decide : instrLen 0x50 = 1)
theorem movDC : Statement .movDC := (by decide : instrLen 0x51 = 1)
theorem movDD : Statement .movDD := (by decide : instrLen 0x52 = 1)
theorem movDE : Statement .movDE := (by decide : instrLen 0x53 = 1)
theorem movDH : Statement .movDH := (by decide : instrLen 0x54 = 1)
theorem movDL : Statement .movDL := (by decide : instrLen 0x55 = 1)
theorem movDM : Statement .movDM := (by decide : instrLen 0x56 = 1)
theorem movDA : Statement .movDA := (by decide : instrLen 0x57 = 1)
theorem movEB : Statement .movEB := (by decide : instrLen 0x58 = 1)
theorem movEC : Statement .movEC := (by decide : instrLen 0x59 = 1)
theorem movED : Statement .movED := (by decide : instrLen 0x5A = 1)
theorem movEE : Statement .movEE := (by decide : instrLen 0x5B = 1)
theorem movEH : Statement .movEH := (by decide : instrLen 0x5C = 1)
theorem movEL : Statement .movEL := (by decide : instrLen 0x5D = 1)
theorem movEM : Statement .movEM := (by decide : instrLen 0x5E = 1)
theorem movEA : Statement .movEA := (by decide : instrLen 0x5F = 1)
theorem movHB : Statement .movHB := (by decide : instrLen 0x60 = 1)
theorem movHC : Statement .movHC := (by decide : instrLen 0x61 = 1)
theorem movHD : Statement .movHD := (by decide : instrLen 0x62 = 1)
theorem movHE : Statement .movHE := (by decide : instrLen 0x63 = 1)
theorem movHH : Statement .movHH := (by decide : instrLen 0x64 = 1)
theorem movHL : Statement .movHL := (by decide : instrLen 0x65 = 1)
theorem movHM : Statement .movHM := (by decide : instrLen 0x66 = 1)
theorem movHA : Statement .movHA := (by decide : instrLen 0x67 = 1)
theorem movLB : Statement .movLB := (by decide : instrLen 0x68 = 1)
theorem movLC : Statement .movLC := (by decide : instrLen 0x69 = 1)
theorem movLD : Statement .movLD := (by decide : instrLen 0x6A = 1)
theorem movLE : Statement .movLE := (by decide : instrLen 0x6B = 1)
theorem movLH : Statement .movLH := (by decide : instrLen 0x6C = 1)
theorem movLL : Statement .movLL := (by decide : instrLen 0x6D = 1)
theorem movLM : Statement .movLM := (by decide : instrLen 0x6E = 1)
theorem movLA : Statement .movLA := (by decide : instrLen 0x6F = 1)
theorem movMB : Statement .movMB := (by decide : instrLen 0x70 = 1)
theorem movMC : Statement .movMC := (by decide : instrLen 0x71 = 1)
theorem movMD : Statement .movMD := (by decide : instrLen 0x72 = 1)
theorem movME : Statement .movME := (by decide : instrLen 0x73 = 1)
theorem movMH : Statement .movMH := (by decide : instrLen 0x74 = 1)
theorem movML : Statement .movML := (by decide : instrLen 0x75 = 1)
theorem hlt : Statement .hlt := (by decide : instrLen 0x76 = 1)
theorem movMA : Statement .movMA := (by decide : instrLen 0x77 = 1)
theorem movAB : Statement .movAB := (by decide : instrLen 0x78 = 1)
theorem movAC : Statement .movAC := (by decide : instrLen 0x79 = 1)
theorem movAD : Statement .movAD := (by decide : instrLen 0x7A = 1)
theorem movAE : Statement .movAE := (by decide : instrLen 0x7B = 1)
theorem movAH : Statement .movAH := (by decide : instrLen 0x7C = 1)
theorem movAL : Statement .movAL := (by decide : instrLen 0x7D = 1)
theorem movAM : Statement .movAM := (by decide : instrLen 0x7E = 1)
theorem movAA : Statement .movAA := (by decide : instrLen 0x7F = 1)
theorem addB : Statement .addB := (by decide : instrLen 0x80 = 1)
theorem addC : Statement .addC := (by decide : instrLen 0x81 = 1)
theorem addD : Statement .addD := (by decide : instrLen 0x82 = 1)
theorem addE : Statement .addE := (by decide : instrLen 0x83 = 1)
theorem addH : Statement .addH := (by decide : instrLen 0x84 = 1)
theorem addL : Statement .addL := (by decide : instrLen 0x85 = 1)
theorem addM : Statement .addM := (by decide : instrLen 0x86 = 1)
theorem addA : Statement .addA := (by decide : instrLen 0x87 = 1)
theorem adcB : Statement .adcB := (by decide : instrLen 0x88 = 1)
theorem adcC : Statement .adcC := (by decide : instrLen 0x89 = 1)
theorem adcD : Statement .adcD := (by decide : instrLen 0x8A = 1)
theorem adcE : Statement .adcE := (by decide : instrLen 0x8B = 1)
theorem adcH : Statement .adcH := (by decide : instrLen 0x8C = 1)
theorem adcL : Statement .adcL := (by decide : instrLen 0x8D = 1)
theorem adcM : Statement .adcM := (by decide : instrLen 0x8E = 1)
theorem adcA : Statement .adcA := (by decide : instrLen 0x8F = 1)
theorem subB : Statement .subB := (by decide : instrLen 0x90 = 1)
theorem subC : Statement .subC := (by decide : instrLen 0x91 = 1)
theorem subD : Statement .subD := (by decide : instrLen 0x92 = 1)
theorem subE : Statement .subE := (by decide : instrLen 0x93 = 1)
theorem subH : Statement .subH := (by decide : instrLen 0x94 = 1)
theorem subL : Statement .subL := (by decide : instrLen 0x95 = 1)
theorem subM : Statement .subM := (by decide : instrLen 0x96 = 1)
theorem subA : Statement .subA := (by decide : instrLen 0x97 = 1)
theorem sbbB : Statement .sbbB := (by decide : instrLen 0x98 = 1)
theorem sbbC : Statement .sbbC := (by decide : instrLen 0x99 = 1)
theorem sbbD : Statement .sbbD := (by decide : instrLen 0x9A = 1)
theorem sbbE : Statement .sbbE := (by decide : instrLen 0x9B = 1)
theorem sbbH : Statement .sbbH := (by decide : instrLen 0x9C = 1)
theorem sbbL : Statement .sbbL := (by decide : instrLen 0x9D = 1)
theorem sbbM : Statement .sbbM := (by decide : instrLen 0x9E = 1)
theorem sbbA : Statement .sbbA := (by decide : instrLen 0x9F = 1)
theorem anaB : Statement .anaB := (by decide : instrLen 0xA0 = 1)
theorem anaC : Statement .anaC := (by decide : instrLen 0xA1 = 1)
theorem anaD : Statement .anaD := (by decide : instrLen 0xA2 = 1)
theorem anaE : Statement .anaE := (by decide : instrLen 0xA3 = 1)
theorem anaH : Statement .anaH := (by decide : instrLen 0xA4 = 1)
theorem anaL : Statement .anaL := (by decide : instrLen 0xA5 = 1)
theorem anaM : Statement .anaM := (by decide : instrLen 0xA6 = 1)
theorem anaA : Statement .anaA := (by decide : instrLen 0xA7 = 1)
theorem xraB : Statement .xraB := (by decide : instrLen 0xA8 = 1)
theorem xraC : Statement .xraC := (by decide : instrLen 0xA9 = 1)
theorem xraD : Statement .xraD := (by decide : instrLen 0xAA = 1)
theorem xraE : Statement .xraE := (by decide : instrLen 0xAB = 1)
theorem xraH : Statement .xraH := (by decide : instrLen 0xAC = 1)
theorem xraL : Statement .xraL := (by decide : instrLen 0xAD = 1)
theorem xraM : Statement .xraM := (by decide : instrLen 0xAE = 1)
theorem xraA : Statement .xraA := (by decide : instrLen 0xAF = 1)
theorem oraB : Statement .oraB := (by decide : instrLen 0xB0 = 1)
theorem oraC : Statement .oraC := (by decide : instrLen 0xB1 = 1)
theorem oraD : Statement .oraD := (by decide : instrLen 0xB2 = 1)
theorem oraE : Statement .oraE := (by decide : instrLen 0xB3 = 1)
theorem oraH : Statement .oraH := (by decide : instrLen 0xB4 = 1)
theorem oraL : Statement .oraL := (by decide : instrLen 0xB5 = 1)
theorem oraM : Statement .oraM := (by decide : instrLen 0xB6 = 1)
theorem oraA : Statement .oraA := (by decide : instrLen 0xB7 = 1)
theorem cmpB : Statement .cmpB := (by decide : instrLen 0xB8 = 1)
theorem cmpC : Statement .cmpC := (by decide : instrLen 0xB9 = 1)
theorem cmpD : Statement .cmpD := (by decide : instrLen 0xBA = 1)
theorem cmpE : Statement .cmpE := (by decide : instrLen 0xBB = 1)
theorem cmpH : Statement .cmpH := (by decide : instrLen 0xBC = 1)
theorem cmpL : Statement .cmpL := (by decide : instrLen 0xBD = 1)
theorem cmpM : Statement .cmpM := (by decide : instrLen 0xBE = 1)
theorem cmpA : Statement .cmpA := (by decide : instrLen 0xBF = 1)
theorem rnz : Statement .rnz := (by decide : instrLen 0xC0 = 1)
theorem popB : Statement .popB := (by decide : instrLen 0xC1 = 1)
theorem jnz (addr : Word) : Statement (.jnz addr) := (by decide : instrLen 0xC2 = 3)
theorem jmp (addr : Word) : Statement (.jmp addr) := (by decide : instrLen 0xC3 = 3)
theorem cnz (addr : Word) : Statement (.cnz addr) := (by decide : instrLen 0xC4 = 3)
theorem pushB : Statement .pushB := (by decide : instrLen 0xC5 = 1)
theorem adi (d8 : Byte) : Statement (.adi d8) := (by decide : instrLen 0xC6 = 2)
theorem rst0 : Statement .rst0 := (by decide : instrLen 0xC7 = 1)
theorem rz : Statement .rz := (by decide : instrLen 0xC8 = 1)
theorem ret : Statement .ret := (by decide : instrLen 0xC9 = 1)
theorem jz (addr : Word) : Statement (.jz addr) := (by decide : instrLen 0xCA = 3)
theorem cz (addr : Word) : Statement (.cz addr) := (by decide : instrLen 0xCC = 3)
theorem call (addr : Word) : Statement (.call addr) := (by decide : instrLen 0xCD = 3)
theorem aci (d8 : Byte) : Statement (.aci d8) := (by decide : instrLen 0xCE = 2)
theorem rst1 : Statement .rst1 := (by decide : instrLen 0xCF = 1)
theorem rnc : Statement .rnc := (by decide : instrLen 0xD0 = 1)
theorem popD : Statement .popD := (by decide : instrLen 0xD1 = 1)
theorem jnc (addr : Word) : Statement (.jnc addr) := (by decide : instrLen 0xD2 = 3)
theorem outPort (port : Byte) : Statement (.outPort port) := (by decide : instrLen 0xD3 = 2)
theorem cnc (addr : Word) : Statement (.cnc addr) := (by decide : instrLen 0xD4 = 3)
theorem pushD : Statement .pushD := (by decide : instrLen 0xD5 = 1)
theorem sui (d8 : Byte) : Statement (.sui d8) := (by decide : instrLen 0xD6 = 2)
theorem rst2 : Statement .rst2 := (by decide : instrLen 0xD7 = 1)
theorem rc : Statement .rc := (by decide : instrLen 0xD8 = 1)
theorem jc (addr : Word) : Statement (.jc addr) := (by decide : instrLen 0xDA = 3)
theorem inPort (port : Byte) : Statement (.inPort port) := (by decide : instrLen 0xDB = 2)
theorem cc (addr : Word) : Statement (.cc addr) := (by decide : instrLen 0xDC = 3)
theorem sbi (d8 : Byte) : Statement (.sbi d8) := (by decide : instrLen 0xDE = 2)
theorem rst3 : Statement .rst3 := (by decide : instrLen 0xDF = 1)
theorem rpo : Statement .rpo := (by decide : instrLen 0xE0 = 1)
theorem popH : Statement .popH := (by decide : instrLen 0xE1 = 1)
theorem jpo (addr : Word) : Statement (.jpo addr) := (by decide : instrLen 0xE2 = 3)
theorem xthl : Statement .xthl := (by decide : instrLen 0xE3 = 1)
theorem cpo (addr : Word) : Statement (.cpo addr) := (by decide : instrLen 0xE4 = 3)
theorem pushH : Statement .pushH := (by decide : instrLen 0xE5 = 1)
theorem ani (d8 : Byte) : Statement (.ani d8) := (by decide : instrLen 0xE6 = 2)
theorem rst4 : Statement .rst4 := (by decide : instrLen 0xE7 = 1)
theorem rpe : Statement .rpe := (by decide : instrLen 0xE8 = 1)
theorem pchl : Statement .pchl := (by decide : instrLen 0xE9 = 1)
theorem jpe (addr : Word) : Statement (.jpe addr) := (by decide : instrLen 0xEA = 3)
theorem xchg : Statement .xchg := (by decide : instrLen 0xEB = 1)
theorem cpe (addr : Word) : Statement (.cpe addr) := (by decide : instrLen 0xEC = 3)
theorem xri (d8 : Byte) : Statement (.xri d8) := (by decide : instrLen 0xEE = 2)
theorem rst5 : Statement .rst5 := (by decide : instrLen 0xEF = 1)
theorem rp : Statement .rp := (by decide : instrLen 0xF0 = 1)
theorem popPsw : Statement .popPsw := (by decide : instrLen 0xF1 = 1)
theorem jp (addr : Word) : Statement (.jp addr) := (by decide : instrLen 0xF2 = 3)
theorem di : Statement .di := (by decide : instrLen 0xF3 = 1)
theorem cp (addr : Word) : Statement (.cp addr) := (by decide : instrLen 0xF4 = 3)
theorem pushPsw : Statement .pushPsw := (by decide : instrLen 0xF5 = 1)
theorem ori (d8 : Byte) : Statement (.ori d8) := (by decide : instrLen 0xF6 = 2)
theorem rst6 : Statement .rst6 := (by decide : instrLen 0xF7 = 1)
theorem rm : Statement .rm := (by decide : instrLen 0xF8 = 1)
theorem sphl : Statement .sphl := (by decide : instrLen 0xF9 = 1)
theorem jm (addr : Word) : Statement (.jm addr) := (by decide : instrLen 0xFA = 3)
theorem ei : Statement .ei := (by decide : instrLen 0xFB = 1)
theorem cm (addr : Word) : Statement (.cm addr) := (by decide : instrLen 0xFC = 3)
theorem cpi (d8 : Byte) : Statement (.cpi d8) := (by decide : instrLen 0xFE = 2)
theorem rst7 : Statement .rst7 := (by decide : instrLen 0xFF = 1)

end Sys2Proof.Laws.EncodeLength
end

