-- ==== Sys2Proof/Tests/Slice0.lean ====
section
/-! SUPPORT. The model's own tests: the well-formedness check, decoding of words written out from the spec's encodings,
one step on small states with the results of the spec's examples and vectors, and a witness for every statement that has
hypotheses. -/

namespace Sys2Proof.Machine.Tests

/-- The instruction bytes decode to, when nothing is left over. -/
def decoded (bytes : List Byte) : Option Instr :=
  match decode bytes with
  | .ok (i, []) => some i
  | _ => none

/-- The next state of an outcome. -/
def next? (o : Host.Outcome State Fault Refusal) : Option State :=
  match o with
  | .next t => some t
  | _ => none

/-- A field of the next state of an instruction. -/
def after {α : Type} (i : Instr) (s : State) (f : State → α) : Option α := (next? (exec i s)).map f

/-- A field of the next state of a step. -/
def afterStep {α : Type} (s : State) (f : State → α) : Option α := (next? (step s)).map f

/-- The reset state with bytes placed in memory. -/
def loaded (bytes : List (Word × Byte)) (s : State := State.reset) : State :=
  bytes.foldl (fun u p => u.writeByte p.1 p.2) s

/-- The flags S, Z, AC, P, CY in the order of the flag byte. -/
def sza (s : State) : List Bool := [s.flags.s, s.flags.z, s.flags.ac, s.flags.p, s.flags.cy]

/-- A board with a ROM, a device and a hole; everything else is RAM. -/
def board : Platform :=
  { irq := .gk8085, hasRimSim := true
    memMap := [⟨0x1000, 0x1FFF, .rom⟩, ⟨0x8000, 0x8001, .device⟩, ⟨0xC000, 0xFFFF, .absent⟩] }

/-! ## Well-formedness: RIM and SIM exist only on the 8085 variant (00_scope.md R3, 60_exceptions.md R308) -/

theorem test_wf_refuses_rim_on_8080 : Instr.wellFormed false .rim = false := by decide
theorem test_wf_refuses_sim_on_8080 : Instr.wellFormed false .sim = false := by decide
theorem test_wf_accepts : Instr.wellFormed true .rim = true ∧ Instr.wellFormed true .sim = true ∧
    Instr.wellFormed false (.jmp 0xFFFF) = true := by decide

/-! ## Decoding: every row's word, its bits as opcode_table.json and 30_encoding.md R61 to R69 write them -/

theorem test_decode_0 :
    [decoded [0b00000000], decoded [0b00000001, 0x34, 0x12], decoded [0b00000010], decoded [0b00000011],
      decoded [0b00000100], decoded [0b00000101], decoded [0b00000110, 0x34], decoded [0b00000111],
      decoded [0b00001000], decoded [0b00001001], decoded [0b00001010], decoded [0b00001011], decoded [0b00001100],
      decoded [0b00001101], decoded [0b00001110, 0x34], decoded [0b00001111]] =
    [some .nop, some (.lxiB 0x1234), some .staxB, some .inxB, some .inrB, some .dcrB, some (.mviB 0x34), some .rlc,
      none, some .dadB, some .ldaxB, some .dcxB, some .inrC, some .dcrC, some (.mviC 0x34), some .rrc] := by
  decide
theorem test_decode_1 :
    [decoded [0b00010000], decoded [0b00010001, 0x34, 0x12], decoded [0b00010010], decoded [0b00010011],
      decoded [0b00010100], decoded [0b00010101], decoded [0b00010110, 0x34], decoded [0b00010111],
      decoded [0b00011000], decoded [0b00011001], decoded [0b00011010], decoded [0b00011011], decoded [0b00011100],
      decoded [0b00011101], decoded [0b00011110, 0x34], decoded [0b00011111]] =
    [none, some (.lxiD 0x1234), some .staxD, some .inxD, some .inrD, some .dcrD, some (.mviD 0x34), some .ral,
      none, some .dadD, some .ldaxD, some .dcxD, some .inrE, some .dcrE, some (.mviE 0x34), some .rar] := by
  decide
theorem test_decode_2 :
    [decoded [0b00100000], decoded [0b00100001, 0x34, 0x12], decoded [0b00100010, 0x34, 0x12],
      decoded [0b00100011], decoded [0b00100100], decoded [0b00100101], decoded [0b00100110, 0x34],
      decoded [0b00100111], decoded [0b00101000], decoded [0b00101001], decoded [0b00101010, 0x34, 0x12],
      decoded [0b00101011], decoded [0b00101100], decoded [0b00101101], decoded [0b00101110, 0x34],
      decoded [0b00101111]] =
    [some .rim, some (.lxiH 0x1234), some (.shld 0x1234), some .inxH, some .inrH, some .dcrH, some (.mviH 0x34),
      some .daa, none, some .dadH, some (.lhld 0x1234), some .dcxH, some .inrL, some .dcrL, some (.mviL 0x34),
      some .cma] := by
  decide
theorem test_decode_3 :
    [decoded [0b00110000], decoded [0b00110001, 0x34, 0x12], decoded [0b00110010, 0x34, 0x12],
      decoded [0b00110011], decoded [0b00110100], decoded [0b00110101], decoded [0b00110110, 0x34],
      decoded [0b00110111], decoded [0b00111000], decoded [0b00111001], decoded [0b00111010, 0x34, 0x12],
      decoded [0b00111011], decoded [0b00111100], decoded [0b00111101], decoded [0b00111110, 0x34],
      decoded [0b00111111]] =
    [some .sim, some (.lxiSp 0x1234), some (.sta 0x1234), some .inxSp, some .inrM, some .dcrM, some (.mviM 0x34),
      some .stc, none, some .dadSp, some (.lda 0x1234), some .dcxSp, some .inrA, some .dcrA, some (.mviA 0x34),
      some .cmc] := by
  decide
theorem test_decode_4 :
    [decoded [0b01000000], decoded [0b01000001], decoded [0b01000010], decoded [0b01000011], decoded [0b01000100],
      decoded [0b01000101], decoded [0b01000110], decoded [0b01000111], decoded [0b01001000], decoded [0b01001001],
      decoded [0b01001010], decoded [0b01001011], decoded [0b01001100], decoded [0b01001101], decoded [0b01001110],
      decoded [0b01001111]] =
    [some .movBB, some .movBC, some .movBD, some .movBE, some .movBH, some .movBL, some .movBM, some .movBA,
      some .movCB, some .movCC, some .movCD, some .movCE, some .movCH, some .movCL, some .movCM, some .movCA] := by
  decide
theorem test_decode_5 :
    [decoded [0b01010000], decoded [0b01010001], decoded [0b01010010], decoded [0b01010011], decoded [0b01010100],
      decoded [0b01010101], decoded [0b01010110], decoded [0b01010111], decoded [0b01011000], decoded [0b01011001],
      decoded [0b01011010], decoded [0b01011011], decoded [0b01011100], decoded [0b01011101], decoded [0b01011110],
      decoded [0b01011111]] =
    [some .movDB, some .movDC, some .movDD, some .movDE, some .movDH, some .movDL, some .movDM, some .movDA,
      some .movEB, some .movEC, some .movED, some .movEE, some .movEH, some .movEL, some .movEM, some .movEA] := by
  decide
theorem test_decode_6 :
    [decoded [0b01100000], decoded [0b01100001], decoded [0b01100010], decoded [0b01100011], decoded [0b01100100],
      decoded [0b01100101], decoded [0b01100110], decoded [0b01100111], decoded [0b01101000], decoded [0b01101001],
      decoded [0b01101010], decoded [0b01101011], decoded [0b01101100], decoded [0b01101101], decoded [0b01101110],
      decoded [0b01101111]] =
    [some .movHB, some .movHC, some .movHD, some .movHE, some .movHH, some .movHL, some .movHM, some .movHA,
      some .movLB, some .movLC, some .movLD, some .movLE, some .movLH, some .movLL, some .movLM, some .movLA] := by
  decide
theorem test_decode_7 :
    [decoded [0b01110000], decoded [0b01110001], decoded [0b01110010], decoded [0b01110011], decoded [0b01110100],
      decoded [0b01110101], decoded [0b01110110], decoded [0b01110111], decoded [0b01111000], decoded [0b01111001],
      decoded [0b01111010], decoded [0b01111011], decoded [0b01111100], decoded [0b01111101], decoded [0b01111110],
      decoded [0b01111111]] =
    [some .movMB, some .movMC, some .movMD, some .movME, some .movMH, some .movML, some .hlt, some .movMA,
      some .movAB, some .movAC, some .movAD, some .movAE, some .movAH, some .movAL, some .movAM, some .movAA] := by
  decide
theorem test_decode_8 :
    [decoded [0b10000000], decoded [0b10000001], decoded [0b10000010], decoded [0b10000011], decoded [0b10000100],
      decoded [0b10000101], decoded [0b10000110], decoded [0b10000111], decoded [0b10001000], decoded [0b10001001],
      decoded [0b10001010], decoded [0b10001011], decoded [0b10001100], decoded [0b10001101], decoded [0b10001110],
      decoded [0b10001111]] =
    [some .addB, some .addC, some .addD, some .addE, some .addH, some .addL, some .addM, some .addA, some .adcB,
      some .adcC, some .adcD, some .adcE, some .adcH, some .adcL, some .adcM, some .adcA] := by
  decide
theorem test_decode_9 :
    [decoded [0b10010000], decoded [0b10010001], decoded [0b10010010], decoded [0b10010011], decoded [0b10010100],
      decoded [0b10010101], decoded [0b10010110], decoded [0b10010111], decoded [0b10011000], decoded [0b10011001],
      decoded [0b10011010], decoded [0b10011011], decoded [0b10011100], decoded [0b10011101], decoded [0b10011110],
      decoded [0b10011111]] =
    [some .subB, some .subC, some .subD, some .subE, some .subH, some .subL, some .subM, some .subA, some .sbbB,
      some .sbbC, some .sbbD, some .sbbE, some .sbbH, some .sbbL, some .sbbM, some .sbbA] := by
  decide
theorem test_decode_A :
    [decoded [0b10100000], decoded [0b10100001], decoded [0b10100010], decoded [0b10100011], decoded [0b10100100],
      decoded [0b10100101], decoded [0b10100110], decoded [0b10100111], decoded [0b10101000], decoded [0b10101001],
      decoded [0b10101010], decoded [0b10101011], decoded [0b10101100], decoded [0b10101101], decoded [0b10101110],
      decoded [0b10101111]] =
    [some .anaB, some .anaC, some .anaD, some .anaE, some .anaH, some .anaL, some .anaM, some .anaA, some .xraB,
      some .xraC, some .xraD, some .xraE, some .xraH, some .xraL, some .xraM, some .xraA] := by
  decide
theorem test_decode_B :
    [decoded [0b10110000], decoded [0b10110001], decoded [0b10110010], decoded [0b10110011], decoded [0b10110100],
      decoded [0b10110101], decoded [0b10110110], decoded [0b10110111], decoded [0b10111000], decoded [0b10111001],
      decoded [0b10111010], decoded [0b10111011], decoded [0b10111100], decoded [0b10111101], decoded [0b10111110],
      decoded [0b10111111]] =
    [some .oraB, some .oraC, some .oraD, some .oraE, some .oraH, some .oraL, some .oraM, some .oraA, some .cmpB,
      some .cmpC, some .cmpD, some .cmpE, some .cmpH, some .cmpL, some .cmpM, some .cmpA] := by
  decide
theorem test_decode_C :
    [decoded [0b11000000], decoded [0b11000001], decoded [0b11000010, 0x34, 0x12],
      decoded [0b11000011, 0x34, 0x12], decoded [0b11000100, 0x34, 0x12], decoded [0b11000101],
      decoded [0b11000110, 0x34], decoded [0b11000111], decoded [0b11001000], decoded [0b11001001],
      decoded [0b11001010, 0x34, 0x12], decoded [0b11001011], decoded [0b11001100, 0x34, 0x12],
      decoded [0b11001101, 0x34, 0x12], decoded [0b11001110, 0x34], decoded [0b11001111]] =
    [some .rnz, some .popB, some (.jnz 0x1234), some (.jmp 0x1234), some (.cnz 0x1234), some .pushB,
      some (.adi 0x34), some .rst0, some .rz, some .ret, some (.jz 0x1234), none, some (.cz 0x1234),
      some (.call 0x1234), some (.aci 0x34), some .rst1] := by
  decide
theorem test_decode_D :
    [decoded [0b11010000], decoded [0b11010001], decoded [0b11010010, 0x34, 0x12], decoded [0b11010011, 0x34],
      decoded [0b11010100, 0x34, 0x12], decoded [0b11010101], decoded [0b11010110, 0x34], decoded [0b11010111],
      decoded [0b11011000], decoded [0b11011001], decoded [0b11011010, 0x34, 0x12], decoded [0b11011011, 0x34],
      decoded [0b11011100, 0x34, 0x12], decoded [0b11011101], decoded [0b11011110, 0x34], decoded [0b11011111]] =
    [some .rnc, some .popD, some (.jnc 0x1234), some (.outPort 0x34), some (.cnc 0x1234), some .pushD,
      some (.sui 0x34), some .rst2, some .rc, none, some (.jc 0x1234), some (.inPort 0x34), some (.cc 0x1234), none,
      some (.sbi 0x34), some .rst3] := by
  decide
theorem test_decode_E :
    [decoded [0b11100000], decoded [0b11100001], decoded [0b11100010, 0x34, 0x12], decoded [0b11100011],
      decoded [0b11100100, 0x34, 0x12], decoded [0b11100101], decoded [0b11100110, 0x34], decoded [0b11100111],
      decoded [0b11101000], decoded [0b11101001], decoded [0b11101010, 0x34, 0x12], decoded [0b11101011],
      decoded [0b11101100, 0x34, 0x12], decoded [0b11101101], decoded [0b11101110, 0x34], decoded [0b11101111]] =
    [some .rpo, some .popH, some (.jpo 0x1234), some .xthl, some (.cpo 0x1234), some .pushH, some (.ani 0x34),
      some .rst4, some .rpe, some .pchl, some (.jpe 0x1234), some .xchg, some (.cpe 0x1234), none, some (.xri 0x34),
      some .rst5] := by
  decide
theorem test_decode_F :
    [decoded [0b11110000], decoded [0b11110001], decoded [0b11110010, 0x34, 0x12], decoded [0b11110011],
      decoded [0b11110100, 0x34, 0x12], decoded [0b11110101], decoded [0b11110110, 0x34], decoded [0b11110111],
      decoded [0b11111000], decoded [0b11111001], decoded [0b11111010, 0x34, 0x12], decoded [0b11111011],
      decoded [0b11111100, 0x34, 0x12], decoded [0b11111101], decoded [0b11111110, 0x34], decoded [0b11111111]] =
    [some .rp, some .popPsw, some (.jp 0x1234), some .di, some (.cp 0x1234), some .pushPsw, some (.ori 0x34),
      some .rst6, some .rm, some .sphl, some (.jm 0x1234), some .ei, some (.cm 0x1234), none, some (.cpi 0x34),
      some .rst7] := by
  decide
theorem test_decode_leaves_the_rest : decode [0x3E, 0x05, 0x76] = .ok (.mviA 0x05, [0x76]) := by rfl
theorem test_decode_truncated : decode [0x3E] = .error .truncated ∧ decode [] = .error .truncated := by
  exact ⟨rfl, rfl⟩
theorem test_decode_unassigned_by_name : decode [0xDD, 0x00, 0x00] = .error (.unassigned 0xDD) := by rfl
theorem test_decode_8080_has_no_rim : decodeOn false [0x20] = .error (.unassigned 0x20) := by rfl
theorem test_tableWord_operands : decodeTableWord 24 0x123401 = some (.lxiB 0x1234) ∧
    decodeTableWord 8 0x01 = some (.lxiB 0) ∧ decodeTableWord 16 0x7F36 = some (.mviM 0x7F) ∧
    decodeTableWord 8 0xCB = none := by decide

/-! ## One instruction, with the results of the examples in 40_data_transfer.md -/

theorem test_lda : after (.lda 0x2000) (loaded [(0x2000, 0x5A)]) (·.a) = some 0x5A := by decide
theorem test_ldaxB : after .ldaxB { loaded [(0x1234, 0x77)] with b := 0x12, c := 0x34 } (·.a) = some 0x77 := by decide
theorem test_lhld : after (.lhld 0x3000) (loaded [(0x3000, 0xCD), (0x3001, 0xAB)]) (·.hl) = some 0xABCD := by decide
theorem test_lhld_wraps : after (.lhld 0xFFFF) (loaded [(0xFFFF, 0xCD), (0x0000, 0xAB)]) (·.hl) = some 0xABCD := by decide
theorem test_lxi_each_pair : after (.lxiB 0x1234) State.reset (fun t => (t.b, t.c)) = some (0x12, 0x34) ∧
    after (.lxiD 0x8000) State.reset (fun t => (t.d, t.e)) = some (0x80, 0x00) ∧
    after (.lxiH 0xABCD) State.reset (fun t => (t.h, t.l)) = some (0xAB, 0xCD) ∧
    after (.lxiSp 0x4000) State.reset (fun t => (t.sp, t.pc)) = some (0x4000, 0x0003) := by decide
theorem test_mov_h_from_m : after .movHM { loaded [(0x2000, 0x30)] with h := 0x20 } (·.hl) = some 0x3000 := by decide
theorem test_mov_m_l : after .movML { State.reset with h := 0x20, l := 0x34 } (·.peek 0x2034) = some 0x34 := by decide
theorem test_mviM : after (.mviM 0x7F) { State.reset with h := 0x22 } (fun t => (t.peek 0x2200, t.pc)) =
    some (0x7F, 0x0002) := by decide
theorem test_shld : after (.shld 0x3000) { State.reset with h := 0xAB, l := 0xCD }
    (fun t => (t.peek 0x3000, t.peek 0x3001)) = some (0xCD, 0xAB) := by decide
theorem test_xchg : after .xchg { State.reset with h := 0x12, l := 0x34, d := 0xAB, e := 0xCD }
    (fun t => (t.hl, t.pair .d)) = some (0xABCD, 0x1234) := by decide

/-! ## 41_arithmetic.md -/

theorem test_add_r : after .addD { State.reset with a := 0x6C, d := 0x2E } (fun t => (t.a, sza t)) =
    some (0x9A, [true, false, true, true, false]) := by decide
theorem test_add_a_wraps : after .addA { State.reset with a := 0x80 } (fun t => (t.a, sza t)) =
    some (0x00, [false, true, false, true, true]) := by decide
theorem test_adc_m : after .adcM { loaded [(0x2000, 0xFE)] with a := 0x01, h := 0x20, flags := Flags.ofByte 0x01 }
    (fun t => (t.a, sza t)) = some (0x00, [false, true, true, true, true]) := by decide
theorem test_aci_corner : after (.aci 0xFF) { State.reset with a := 0xFF, flags := Flags.ofByte 0x01 }
    (fun t => (t.a, t.flags.cy, t.flags.ac)) = some (0xFF, true, true) := by decide
theorem test_sui_borrow : after (.sui 0x01) State.reset (fun t => (t.a, sza t)) =
    some (0xFF, [true, false, false, true, true]) := by decide
theorem test_sbi_corner : after (.sbi 0xFF) { State.reset with flags := Flags.ofByte 0x01 } (fun t => (t.a, sza t)) =
    some (0x00, [false, true, false, true, true]) := by decide
theorem test_sub_m : after .subM { loaded [(0x2000, 0x20)] with a := 0x10, h := 0x20 } (fun t => (t.a, sza t)) =
    some (0xF0, [true, false, true, true, true]) := by decide
theorem test_sbb_a_spreads_carry : after .sbbA { State.reset with a := 0x12, flags := Flags.ofByte 0x01 }
    (fun t => (t.a, sza t)) = some (0xFF, [true, false, false, true, true]) := by decide
theorem test_daa_example : after .daa { State.reset with a := 0x9B } (fun t => (t.a, sza t)) =
    some (0x01, [false, false, true, false, true]) := by decide
theorem test_daa_high_digit_nine : after .daa { State.reset with a := 0x9A } (fun t => (t.a, sza t)) =
    some (0x00, [false, true, true, true, true]) := by decide
theorem test_dad_h : after .dadH { State.reset with h := 0x80, l := 0x01 } (fun t => (t.hl, t.flags.cy)) =
    some (0x0002, true) := by decide
theorem test_dad_sp_keeps_z : after .dadSp { State.reset with h := 0x10, sp := 0xF000, flags := Flags.ofByte 0x40 }
    (fun t => (t.hl, sza t)) = some (0x0000, [false, true, false, false, true]) := by decide
theorem test_inr_wraps_keeps_carry : after .inrB { State.reset with b := 0xFF, flags := Flags.ofByte 0x01 }
    (fun t => (t.b, sza t)) = some (0x00, [false, true, true, true, true]) := by decide
theorem test_dcr_wraps : after .dcrB State.reset (fun t => (t.b, sza t)) =
    some (0xFF, [true, false, false, true, false]) := by decide
theorem test_inr_m : after .inrM { loaded [(0x2000, 0x0F)] with h := 0x20 } (fun t => (t.peek 0x2000, sza t)) =
    some (0x10, [false, false, true, false, false]) := by decide
theorem test_dcr_m : after .dcrM { loaded [(0x2000, 0x40)] with h := 0x20 } (fun t => (t.peek 0x2000, sza t)) =
    some (0x3F, [false, false, false, true, false]) := by decide
theorem test_inx_propagates : after .inxB { State.reset with b := 0x12, c := 0xFF } (fun t => (t.b, t.c)) =
    some (0x13, 0x00) := by decide
theorem test_dcx_sp_wraps : after .dcxSp State.reset (fun t => (t.sp, sza t)) =
    some (0xFFFF, [false, false, false, false, false]) := by decide

/-! ## 42_logical.md -/

theorem test_ana : after .anaC { State.reset with a := 0xFC, c := 0x0F } (fun t => (t.a, sza t)) =
    some (0x0C, [false, false, true, true, false]) := by decide
theorem test_ani : after (.ani 0x0F) { State.reset with a := 0x3A } (fun t => (t.a, sza t)) =
    some (0x0A, [false, false, true, true, false]) := by decide
theorem test_xra_a_clears : after .xraA { State.reset with a := 0x5A, flags := Flags.ofByte 0xFF } (fun t => (t.a, sza t)) =
    some (0x00, [false, true, false, true, false]) := by decide
theorem test_ora_m : after .oraM { loaded [(0x2000, 0x01)] with a := 0x80, h := 0x20 } (fun t => (t.a, sza t)) =
    some (0x81, [true, false, false, true, false]) := by decide
theorem test_cmp_r : after .cmpE { State.reset with a := 0x0A, e := 0x05 } (fun t => (t.a, sza t)) =
    some (0x0A, [false, false, true, true, false]) := by decide
theorem test_cmp_m : after .cmpM { loaded [(0x2000, 0x0A)] with a := 0x05, h := 0x20 } (fun t => (t.a, sza t)) =
    some (0x05, [true, false, false, false, true]) := by decide
theorem test_cma_stc_cmc : after .cma { State.reset with a := 0x51 } (·.a) = some 0xAE ∧
    after .stc State.reset (·.flags.cy) = some true ∧
    after .cmc { State.reset with flags := Flags.ofByte 0x01 } (·.flags.cy) = some false := by decide
theorem test_rlc_rrc : after .rlc { State.reset with a := 0xF2 } (fun t => (t.a, t.flags.cy)) = some (0xE5, true) ∧
    after .rrc { State.reset with a := 0xF2 } (fun t => (t.a, t.flags.cy)) = some (0x79, false) := by decide
theorem test_ral_rar : after .ral { State.reset with a := 0xB5 } (fun t => (t.a, t.flags.cy)) = some (0x6A, true) ∧
    after .rar { State.reset with a := 0x6A, flags := Flags.ofByte 0x01 } (fun t => (t.a, t.flags.cy)) =
      some (0xB5, false) := by decide

/-! ## 43_branch.md -/

theorem test_jumps : after (.jc 0x0150) { State.reset with pc := 0x0100, flags := Flags.ofByte 0x01 } (·.pc) = some 0x0150 ∧
    after (.jc 0x0150) { State.reset with pc := 0x0100 } (·.pc) = some 0x0103 := by decide
theorem test_call : after (.call 0x1234) { State.reset with pc := 0x0100, sp := 0x2400 }
    (fun t => (t.peek 0x23FF, t.peek 0x23FE, t.sp, t.pc)) = some (0x01, 0x03, 0x23FE, 0x1234) := by decide
theorem test_call_not_taken : after (.cc 0x3000) { State.reset with pc := 0x0100, sp := 0x2400 }
    (fun t => (t.mem, t.sp, t.pc)) = some ([], 0x2400, 0x0103) := by decide
theorem test_ret : after .ret { loaded [(0x23FE, 0x03), (0x23FF, 0x01)] with sp := 0x23FE } (fun t => (t.pc, t.sp)) =
    some (0x0103, 0x2400) := by decide
theorem test_rp_is_sign_clear : after .rp { loaded [(0x23FE, 0x03), (0x23FF, 0x01)] with sp := 0x23FE } (·.pc) =
    some 0x0103 := by decide
theorem test_rst : after .rst5 { State.reset with pc := 0x0150, sp := 0x2400 }
    (fun t => (t.peek 0x23FF, t.peek 0x23FE, t.sp, t.pc)) = some (0x01, 0x51, 0x23FE, 0x0028) := by decide
theorem test_pchl : after .pchl { State.reset with h := 0x41, l := 0x3E } (·.pc) = some 0x413E := by decide

/-! ## 44_machine_stack_io.md -/

theorem test_hlt : after .hlt { State.reset with pc := 0x0010 } (fun t => (t.pc, t.halted)) = some (0x0011, true) := by decide
theorem test_out : after (.outPort 0x01) { State.reset with a := 0x41 } (·.outputs) = some [.port 0x01 0x41] := by decide
theorem test_in_draws : after (.inPort 0x10) State.reset (fun t => (t.draws, sza t, t.pc)) =
    some (1, [false, false, false, false, false], 0x0002) := by rfl
theorem test_push_psw : after .pushPsw { State.reset with a := 0x1F, sp := 0x2400, flags := Flags.ofByte 0x47 }
    (fun t => (t.peek 0x23FF, t.peek 0x23FE, t.sp)) = some (0x1F, 0x47, 0x23FE) := by decide
theorem test_push_b_wraps : after .pushB { State.reset with b := 0x12, c := 0x34, sp := 0x0001 }
    (fun t => (t.peek 0x0000, t.peek 0xFFFF, t.sp)) = some (0x12, 0x34, 0xFFFF) := by decide
theorem test_pop_psw : after .popPsw { loaded [(0x2C00, 0xC3), (0x2C01, 0xFF)] with sp := 0x2C00 }
    (fun t => (t.a, sza t, t.sp)) = some (0xFF, [true, true, false, false, true], 0x2C02) := by decide
theorem test_pop_b : after .popB { loaded [(0x23FE, 0x34), (0x23FF, 0x12)] with sp := 0x23FE }
    (fun t => (t.b, t.c, t.sp)) = some (0x12, 0x34, 0x2400) := by decide
theorem test_sphl : after .sphl { State.reset with h := 0x50, l := 0x6C } (·.sp) = some 0x506C := by decide
theorem test_xthl : after .xthl { loaded [(0x10AD, 0xF0), (0x10AE, 0x0D)] with sp := 0x10AD, h := 0x0B, l := 0x3C }
    (fun t => (t.hl, t.peek 0x10AD, t.peek 0x10AE)) = some (0x0DF0, 0x3C, 0x0B) := by decide
theorem test_rim_after_reset : ∀ sid : Bool, (rimByte State.reset sid).extractLsb' 0 7 = 0x07 := by decide
theorem test_rim_loads_that_byte : after .rim State.reset (·.a) = some (rimByte State.reset State.reset.readSid.1) := by rfl
theorem test_sim_masks : after .sim { State.reset with a := 0xDB, r75 := true }
    (fun t => [t.sod, t.r75, t.m75, t.m65, t.m55]) = some [true, false, false, true, true] := by decide
theorem test_sim_disabled : after .sim { State.reset with a := 0x87, m75 := false, r75 := true }
    (fun t => [t.sod, t.r75, t.m75, t.m65, t.m55]) = some [false, true, false, true, true] := by decide

/-! ## Memory, the step and interrupts -/

theorem test_reset_memory_is_canonical : Memory.wf State.reset.mem = true := by decide
theorem test_write_of_unlisted_value_is_removed : (loaded [(0x2000, 0x5A), (0x2000, 0x00)]).mem = [] := by decide
theorem test_kinds_at_the_edges :
    [0x0FFF, 0x1000, 0x1FFF, 0x2000, 0x7FFF, 0x8000, 0x8001, 0x8002, 0xBFFF, 0xC000, 0xFFFF].map
      (State.kindAt { State.reset with platform := board }) =
    [.ram, .rom, .rom, .ram, .ram, .device, .device, .ram, .ram, .absent, .absent] := by decide
theorem test_device_write_is_an_event : after (.sta 0x8000) { State.reset with platform := board, a := 0x42 }
    (fun t => (t.outputs, t.mem)) = some ([.device 0x8000 0x42], []) := by decide
theorem test_rom_write_is_dropped : after (.sta 0x1000) { State.reset with platform := board, a := 0x42 }
    (fun t => (t.outputs, t.mem)) = some ([], []) := by decide
theorem test_step_runs_the_placed_word : afterStep (State.reset.withFetchWord 24 0x123401) (fun t => (t.b, t.c, t.pc)) =
    some (0x12, 0x34, 0x0003) := by decide
theorem test_step_refuses_unassigned : step (State.reset.withFetchWord 8 0xDD) = .refused (.unassignedOpcode 0 0xDD) := by rfl
theorem test_fetch_wraps : afterStep { loaded [(0xFFFF, 0xC3), (0x0000, 0x50), (0x0001, 0x01)] with pc := 0xFFFF } (·.pc) =
    some 0x0150 := by decide

/-- A sample in which every source asks. -/
def allPins : PinSample :=
  { rimRst65 := true, rimRst55 := true, trap := true, rst75Edge := true, rst65 := true, rst55 := true, intr := true,
    intrInstr := .rst 7 }

/-- A machine under gk8085, interrupts enabled and unmasked, whose next boundary sees `p`. -/
def asked (p : PinSample) : State :=
  { State.reset with
    platform := { Platform.standard with irq := .gk8085 }, ie := true, m55 := false, m65 := false, m75 := false
    sp := 0x2400, pc := 0x0100, schedule := [p] }

theorem test_trap_wins : (next? (boundary (asked allPins))).map (fun t => (t.pc, t.ie, t.r75, t.sp, t.peek 0x23FF)) =
    some (0x0024, false, true, 0x23FE, 0x01) := by decide
theorem test_rst75_clears_its_latch : (next? (boundary (asked { allPins with trap := false }))).map
    (fun t => (t.pc, t.r75)) = some (0x003C, false) := by decide
theorem test_masked_source_is_passed_over :
    (next? (boundary { asked { allPins with trap := false, rst75Edge := false } with m65 := true })).map (·.pc) =
      some 0x002C := by decide
theorem test_ei_delays_one_instruction :
    afterStep { asked { allPins with trap := false } with pc := 0, mem := [(0, 0xFB)], ie := false }
      (fun t => (t.pc, t.ie, t.eiDelay)) = some (0x0001, true, true) := by decide
theorem test_interrupt_ends_a_halt : afterStep { asked { allPins with trap := false, rst75Edge := false } with halted := true }
    (fun t => (t.halted, t.pc)) = some (false, 0x0034) := by decide

/-! ## Witnesses: for every statement with hypotheses, a state and operands that meet them all -/

/-- AddOtherForms. -/
theorem test_witness_add_forms : AluOp.add ∈ [AluOp.add, AluOp.adc] ∧ AluOp.adc ∈ [AluOp.add, AluOp.adc] := by decide
/-- SubtractForms. -/
theorem test_witness_subtract_forms : AluOp.sub ∈ [AluOp.sub, AluOp.sbb] ∧ AluOp.sbb ∈ [AluOp.sub, AluOp.sbb] := by decide
/-- LogicalForms. -/
theorem test_witness_logical_forms :
    ∀ op ∈ [AluOp.ana, AluOp.xra, AluOp.ora], op ∈ [AluOp.ana, AluOp.xra, AluOp.ora] := by decide
/-- Jumps, Calls and Returns: each condition true and false. -/
theorem test_witness_conditions : ∀ cc : Cond,
    (∃ f : Flags, CondTrue cc f) ∧ ∃ f : Flags, ¬CondTrue cc f := by
  intro cc
  cases cc
  all_goals first
    | exact ⟨⟨Flags.ofByte 0xFF, rfl⟩, ⟨Flags.ofByte 0x00, nofun⟩⟩
    | exact ⟨⟨Flags.ofByte 0x00, rfl⟩, ⟨Flags.ofByte 0xFF, nofun⟩⟩
/-- InterruptSwitch, ReadMasks, HaltedStep, QuietBoundary and PinsWithoutInfluence: both interrupt models. -/
theorem test_witness_irq_models : State.reset.platform.irq = .none ∧ (asked allPins).platform.irq = .gk8085 := by decide
/-- SetMasks: bit 3 of A set and clear. -/
theorem test_witness_sim : (0x08 : Byte).getLsbD 3 = true ∧ (0xF7 : Byte).getLsbD 3 = false := by decide
/-- LxiPair, PushPair, PopPair and StepPair: each pair, and a pair that is not SP, not PSW. -/
theorem test_witness_pairs : Pair.b ≠ .sp ∧ Pair.d ≠ .sp ∧ Pair.h ≠ .sp ∧ StackPair.b ≠ .psw ∧ StackPair.d ≠ .psw ∧
    StackPair.h ≠ .psw := by decide
/-- MemoryByKind: each kind, at the ends of its regions, and the empty map. -/
theorem test_witness_memory_kinds :
    IsMemory { State.reset with platform := board } 0x1000 ∧ IsMemory { State.reset with platform := board } 0x0FFF ∧
    State.kindAt { State.reset with platform := board } 0x0FFF = .ram ∧
    State.kindAt { State.reset with platform := board } 0x1FFF = .rom ∧
    State.kindAt { State.reset with platform := board } 0x8001 = .device ∧
    State.kindAt { State.reset with platform := board } 0xFFFF = .absent ∧ State.reset.platform.memMap = [] := by
  exact ⟨.inr rfl, .inl rfl, rfl, rfl, rfl, rfl, rfl⟩
/-- MemoryByKind: a region that decides at both its ends, one before it that does not hold the address, and addresses just
outside every region. -/
theorem test_witness_regions :
    board.memMap = [⟨0x1000, 0x1FFF, .rom⟩] ++ ⟨0x8000, 0x8001, .device⟩ :: [⟨0xC000, 0xFFFF, .absent⟩] ∧
    (∀ addr ∈ [(0x8000 : Word), 0x8001], ∀ q ∈ [(⟨0x1000, 0x1FFF, .rom⟩ : Region)],
      addr.toNat < q.first ∨ q.last < addr.toNat) ∧
    (∀ addr ∈ [(0x8000 : Word), 0x8001], 0x8000 ≤ addr.toNat ∧ addr.toNat ≤ 0x8001) ∧
    (∀ addr ∈ [(0x0FFF : Word), 0x2000, 0x7FFF, 0x8002, 0xBFFF], ∀ q ∈ board.memMap,
      addr.toNat < q.first ∨ q.last < addr.toNat) := by
  exact ⟨rfl, by simp, by simp, by simp [board]⟩
theorem test_first_region_decides : kindIn [⟨0x1000, 0x1FFF, .rom⟩, ⟨0x1800, 0x2FFF, .device⟩] 0x1FFF = .rom ∧
    kindIn [⟨0x1000, 0x1FFF, .rom⟩, ⟨0x1800, 0x2FFF, .device⟩] 0x2000 = .device := by
  simp [kindIn]
/-- DecodeOfEncode, both variants. -/
theorem test_witness_decode_of_encode : Instr.wellFormed true .rim = true ∧ Instr.wellFormed false .nop = true := by decide
/-- EncodeOfDecode. -/
theorem test_witness_encode_of_decode : decodeOn false [0x3E, 0x05, 0x76] = .ok (.mviA 0x05, [0x76]) := by rfl
/-- UnassignedRefused. -/
theorem test_witness_unassigned : (loaded [(0, 0x08)]).resetIn = false ∧ (loaded [(0, 0x08)]).halted = false ∧
    ((loaded [(0, 0x08)]).readByte (loaded [(0, 0x08)]).pc).1 ∈
      unassignedCodes (loaded [(0, 0x08)]).platform.hasRimSim ∧
    (0x20 : Byte) ∈ unassignedCodes false ∧ (0x20 : Byte) ∉ unassignedCodes true := by decide
/-- StepRunsDecoded. -/
theorem test_witness_step_runs : (loaded [(0, 0x3E), (1, 0x05)]).resetIn = false ∧
    (loaded [(0, 0x3E), (1, 0x05)]).halted = false ∧
    decodeOn (loaded [(0, 0x3E), (1, 0x05)]).platform.hasRimSim (loaded [(0, 0x3E), (1, 0x05)]).fetch.1 =
      .ok (.mviA 0x05, []) := by
  exact ⟨rfl, rfl, rfl⟩
/-- StepOfEncoding, the bytes wrapping round the top of memory. -/
theorem test_witness_step_of_encoding :
    let s := { loaded [(0xFFFF, 0xC3), (0x0000, 0x50), (0x0001, 0x01)] with pc := 0xFFFF }
    s.resetIn = false ∧ s.halted = false ∧ Instr.wellFormed s.platform.hasRimSim (.jmp 0x0150) = true ∧
    ∀ (k : Nat) (v : Byte), (encode (.jmp 0x0150))[k]? = some v →
      IsMemory s (s.pc + BitVec.ofNat 16 k) ∧ s.peek (s.pc + BitVec.ofNat 16 k) = v := by
  refine ⟨rfl, rfl, rfl, fun k v h => ?_⟩
  match k with
  | 0 => exact ⟨.inl rfl, Option.some.inj h⟩
  | 1 => exact ⟨.inl rfl, Option.some.inj h⟩
  | 2 => exact ⟨.inl rfl, Option.some.inj h⟩
  | k + 3 => simp [encode, withWord] at h
/-- PcAdvances. -/
theorem test_witness_pc_advances : ¬Instr.isTransfer (.lda 0x2000) ∧ ∃ t, exec (.lda 0x2000) State.reset = .next t := by
  refine ⟨?_, _, rfl⟩
  rintro (⟨_, h⟩ | ⟨cc, _, h⟩ | ⟨_, h⟩ | ⟨cc, _, h⟩ | h | ⟨cc, h⟩ | ⟨n, h⟩ | h)
  · cases h
  · cases cc <;> cases h
  · cases h
  · cases cc <;> cases h
  · cases h
  · cases cc <;> cases h
  · match n with
    | 0 | 1 | 2 | 3 | 4 | 5 | 6 | 7 => cases h
  · cases h
/-- ResetState, the step under RESET IN. -/
theorem test_witness_reset_in : ({ State.reset with resetIn := true, halted := true } : State).resetIn = true := by rfl
/-- StepKeepsInv. -/
theorem test_witness_invariant : (loaded [(0, 0xFB), (0x2000, 0x11)]).Inv ∧
    ∃ t, step (loaded [(0, 0xFB), (0x2000, 0x11)]) = .next t := by
  exact ⟨⟨rfl, fun _ => rfl⟩, _, rfl⟩
/-- HaltedStep, under both interrupt models. -/
theorem test_witness_halted : ({ State.reset with halted := true } : State).halted = true ∧
    ({ State.reset with halted := true } : State).resetIn = false ∧
    ({ asked allPins with halted := true } : State).halted = true ∧ (asked allPins).resetIn = false := by decide
/-- OnlyRamChanges: a step of STA to ROM, with an address that is not RAM. -/
theorem test_witness_only_ram : (∃ t, step { loaded [(0, 0x32), (2, 0x10)] with platform := board } = .next t) ∧
    State.kindAt { loaded [(0, 0x32), (2, 0x10)] with platform := board } 0x1000 ≠ .ram := by
  exact ⟨⟨_, rfl⟩, by decide⟩
/-- InterruptTaken: each of the five sources accepted, INTR with RST n and with CALL. -/
theorem test_witness_trap : (asked allPins).platform.irq = .gk8085 ∧ AcceptedAt (asked allPins) .trap ∧
    EntersAt (asked allPins) .trap 0x0024 := by
  exact ⟨rfl, ⟨⟨rfl, rfl⟩, fun o h => by cases o <;> cases h⟩, rfl⟩
theorem test_witness_rst75 : AcceptedAt (asked { allPins with trap := false }) .rst75 ∧
    EntersAt (asked { allPins with trap := false }) .rst75 0x003C := by
  refine ⟨⟨⟨rfl, rfl, rfl, rfl, rfl⟩, fun o h => ?_⟩, rfl⟩
  cases o <;> simp [IntSource.rank, EligibleAt, asked, State.pinsNow] at h ⊢
theorem test_witness_rst65 : AcceptedAt (asked { allPins with trap := false, rst75Edge := false }) .rst65 ∧
    EntersAt (asked { allPins with trap := false, rst75Edge := false }) .rst65 0x0034 := by
  refine ⟨⟨⟨rfl, rfl, rfl, rfl, rfl⟩, fun o h => ?_⟩, rfl⟩
  cases o <;> simp [IntSource.rank, EligibleAt, r75AtBoundary, asked, State.pinsNow, State.reset] at h ⊢
theorem test_witness_rst55 : AcceptedAt (asked { PinSample.quiet with rst55 := true, intr := true }) .rst55 ∧
    EntersAt (asked { PinSample.quiet with rst55 := true, intr := true }) .rst55 0x002C := by
  refine ⟨⟨⟨rfl, rfl, rfl, rfl, rfl⟩, fun o h => ?_⟩, rfl⟩
  cases o <;>
    simp [IntSource.rank, EligibleAt, r75AtBoundary, asked, State.pinsNow, State.reset, PinSample.quiet] at h ⊢
theorem test_witness_intr : AcceptedAt (asked { PinSample.quiet with intr := true, intrInstr := .rst 7 }) .intr ∧
    EntersAt (asked { PinSample.quiet with intr := true, intrInstr := .rst 7 }) .intr 0x0038 ∧
    EntersAt (asked { PinSample.quiet with intr := true, intrInstr := .call 0x1234 }) .intr 0x1234 := by
  refine ⟨⟨⟨rfl, rfl, rfl⟩, fun o h => ?_⟩, .inl ⟨7, rfl, rfl⟩, .inr rfl⟩
  cases o <;>
    simp [IntSource.rank, EligibleAt, r75AtBoundary, asked, State.pinsNow, State.reset, PinSample.quiet] at h ⊢
/-- QuietBoundary: nothing eligible (interrupts disabled, every maskable source asking); INTR with another instruction. -/
theorem test_witness_nothing_eligible : ∀ src : IntSource,
    ¬EligibleAt { asked { allPins with trap := false } with ie := false } src := by
  intro src
  cases src <;> simp [EligibleAt, asked, State.pinsNow]
theorem test_witness_intr_other : AcceptedAt (asked { PinSample.quiet with intr := true, intrInstr := .other 0x00 }) .intr ∧
    (asked { PinSample.quiet with intr := true, intrInstr := .other 0x00 }).pinsNow.intrInstr = .other 0x00 := by
  refine ⟨⟨⟨rfl, rfl, rfl⟩, fun o h => ?_⟩, rfl⟩
  cases o <;>
    simp [IntSource.rank, EligibleAt, r75AtBoundary, asked, State.pinsNow, State.reset, PinSample.quiet] at h ⊢
/-- EnableDelay: EI at pc with every maskable source asking; and another instruction. -/
theorem test_witness_enable_delay :
    RunsInstr { asked { allPins with trap := false } with pc := 0, mem := [(0, 0xFB)] } .ei ∧
    (asked { allPins with trap := false }).pinsNow.trap = false ∧
    RunsInstr { asked { allPins with trap := false } with pc := 0, eiDelay := true } .nop ∧
    ∃ t, step { asked { allPins with trap := false } with pc := 0, eiDelay := true } = .next t := by
  exact ⟨⟨rfl, rfl, [], rfl⟩, rfl, ⟨rfl, rfl, [], rfl⟩, _, rfl⟩
/-- MasksOnlyBySim. -/
theorem test_witness_masks : (∃ t, step State.reset = .next t) ∧ State.reset.resetIn = false ∧
    ¬RunsInstr State.reset .sim := by
  refine ⟨⟨_, rfl⟩, rfl, ?_⟩
  rintro ⟨_, _, rest, h⟩
  cases h
/-- EnableAndHaltSources: IE rises, halted rises, a halt ends by RESET IN and by an interrupt. -/
theorem test_witness_enable_and_halt :
    afterStep (loaded [(0, 0xFB)]) (fun t => ((loaded [(0, 0xFB)]).ie, t.ie)) = some (false, true) ∧
    afterStep (loaded [(0, 0x76)]) (fun t => ((loaded [(0, 0x76)]).halted, t.halted)) = some (false, true) ∧
    afterStep { State.reset with halted := true, resetIn := true } (·.halted) = some false ∧
    afterStep { asked allPins with halted := true } (·.halted) = some false := by
  exact ⟨rfl, rfl, rfl, rfl⟩
/-- SmallVariantIgnoresMasks. -/
theorem test_witness_small_variant :
    ({ State.reset with platform := { Platform.standard with hasRimSim := false } } : State).platform.hasRimSim = false ∧
    ({ State.reset with platform := { Platform.standard with hasRimSim := false } } : State).resetIn = false := by
  exact ⟨rfl, rfl⟩
/-- DecimalAddition, at the largest sum. -/
theorem test_witness_decimal : (99 : Nat) < 100 ∧ ({ State.reset with a := 0x99, b := 0x99 } : State).a = bcd 99 ∧
    ({ State.reset with a := 0x99, b := 0x99 } : State).reg .b = bcd 99 ∧ (0x00 : Byte) = bcd 0 := by decide
/-- StackRoundTrip and RepeatedExchanges: a stack in RAM, wrapping at address 0. -/
theorem test_witness_stack : State.reset.kindAt (State.reset.sp - 1) = .ram ∧ State.reset.kindAt (State.reset.sp - 2) = .ram ∧
    State.reset.kindAt State.reset.sp = .ram ∧ State.reset.kindAt (State.reset.sp + 1) = .ram := by decide

end Sys2Proof.Machine.Tests
end

section
/-! The stack helpers (20_memory.md R45, R46): the frame of push16 and pop16 beside the bytes they move, which
`stored_push16` and `pop16_fst` give. -/

namespace Sys2Proof.Machine

section KeepsFrame

variable {s t : State}

/-- What `Keeps` gives of the control bits, in the words of the statements. -/
theorem Keeps.sameControl (h : Keeps s t) : SameControl s t :=
  ⟨h.ie, h.m55, h.m65, h.m75, h.r75, h.sod, h.halted, h.eiDelay⟩

/-- What `Keeps` gives of the environment, in the words of the statements. -/
theorem Keeps.sameEnv (h : Keeps s t) : SameEnv s t := ⟨h.platform, h.schedule, h.resetIn⟩

/-- `Keeps` says nothing of the oracle draws; with them it gives the whole rest. -/
theorem Keeps.sameRest (h : Keeps s t) (hd : t.draws = s.draws) : SameRest s t := ⟨hd, h.sameControl, h.sameEnv⟩

end KeepsFrame

section StackFrame

variable (s : State) (v : Word) (q : Reg)

@[simp] theorem push16_reg : (s.push16 v).reg q = s.reg q := by cases q <;> simp [State.reg]

@[simp] theorem pop16_reg : s.pop16.2.reg q = s.reg q := by cases q <;> simp [State.reg]

theorem sameRegs_push16 : SameRegs [] s (s.push16 v) := fun q _ => push16_reg s v q

theorem sameRegs_pop16 : SameRegs [] s s.pop16.2 := fun q _ => pop16_reg s q

theorem sameRest_push16 : SameRest s (s.push16 v) := ((Keeps.refl s).push16 v).sameRest (push16_draws s v)

theorem nothingStored_pop16 : NothingStored s s.pop16.2 := nothingStored_of (pop16_mem s) (pop16_outputs s)

end StackFrame

/-- Settles O36: the bytes moved and the new SP by the laws of push16 and pop16, the frame from `Keeps`. -/
theorem stackHelpers : Obligations.StackHelpers := by
  unfold Obligations.StackHelpers
  refine ⟨fun s v => ?push, fun s => ?pop⟩
  case push =>
    exact ⟨stored_push16 s v, push16_sp s v, sameRegs_push16 s v, push16_flags s v, push16_pc s v, sameRest_push16 s v⟩
  case pop =>
    have hk : Keeps s s.pop16.2 := (Keeps.refl s).pop16
    exact ⟨pop16_fst, pop16_draws, pop16_sp s, sameRegs_pop16 s, pop16_flags s, pop16_pc s, nothingStored_pop16 s,
      hk.sameControl, hk.sameEnv⟩

end Sys2Proof.Machine
end

section
/-! The decoder by instruction format (30_encoding.md R60, R61, R70): with the length the opcode byte has and what the
opcode map answers for it, the instruction and the bytes left over. An operand byte the format does not have is free. -/

namespace Sys2Proof

section DecodeFormats

variable {op b2 b3 : Byte} {rest : List Byte} {i : Instr}

theorem decode_one_byte (hlen : instrLen op = 1) (hop : ∀ x y, decodeOp op x y = some i) :
    decode (op :: rest) = .ok (i, rest) := by
  simp [decode, hlen, hop]

theorem decode_two_bytes (hlen : instrLen op = 2) (hop : ∀ y, decodeOp op b2 y = some i) :
    decode (op :: b2 :: rest) = .ok (i, rest) := by
  simp [decode, hlen, hop]

theorem decode_three_bytes (hlen : instrLen op = 3) (hop : decodeOp op b2 b3 = some i) :
    decode (op :: b2 :: b3 :: rest) = .ok (i, rest) := by
  simp [decode, hlen, hop]

end DecodeFormats

/-- Settles O38: each word by the lemma of its format; its length and its place in the opcode map are computed. -/
theorem decodedWords : Obligations.DecodedWords := by
  unfold Obligations.DecodedWords
  refine ⟨?movAB, ?mviM, ?lxiH, ?hlt, ?sbbM, ?cpi, ?dadSp, ?rar, ?jpe, ?rst5, ?pushPsw, ?outPort, ?sim⟩
  case movAB | hlt | sbbM | dadSp | rar | rst5 | pushPsw | sim => exact decode_one_byte rfl fun _ _ => rfl
  case mviM | cpi | outPort => exact decode_two_bytes rfl fun _ => rfl
  case lxiH | jpe => exact decode_three_bytes rfl rfl

end Sys2Proof
end

section
/-! The data transfer instructions (40_data_transfer.md): what one register, one pair or one byte of memory written
leaves alone, and which of these writes each instruction is, with its bytes and cycles. -/

namespace Sys2Proof.Machine

section OneWrite

variable (s : State) (a : Word) (v : Byte) (q : Reg)

theorem reg_withPc (p : Word) : State.reg { s with pc := p } q = s.reg q := by cases q <;> rfl

@[simp] theorem readByte_reg : (s.readByte a).2.reg q = s.reg q := by cases q <;> simp [State.reg]

@[simp] theorem writeByte_reg : (s.writeByte a v).reg q = s.reg q := by cases q <;> simp [State.reg]

theorem sameRegs_setReg (r : Reg) : SameRegs [r] s (s.setReg r v) :=
  fun q hq => reg_setReg_other s r q v (by simpa using hq)

theorem sameRegs_writeByte : SameRegs [] s (s.writeByte a v) := fun q _ => writeByte_reg s a v q

/-- Writing a pair reaches its two registers only; writing SP reaches none. -/
theorem sameRegs_setPair (rp : Pair) (w : Word) : SameRegs rp.halves s (s.setPair rp w) := by
  intro q hq
  cases rp <;> cases q <;> simp [Pair.halves] at hq <;> rfl

theorem setPair_sp_eq (rp : Pair) (w : Word) : (s.setPair rp w).sp = if rp = .sp then w else s.sp := by
  cases rp <;> rfl

end OneWrite

section AfterDone

variable {s t u : State} {except : List Reg}

theorem SameRegs.withPc (h : SameRegs except s t) (p : Word) : SameRegs except s { t with pc := p } :=
  fun q hq => (reg_withPc t q p).trans (h q hq)

/-- The registers of a state that itself has those of `s`. -/
theorem SameRegs.of_reg (h : SameRegs except u t) (hu : ∀ q, u.reg q = s.reg q) : SameRegs except s t :=
  fun q hq => (h q hq).trans (hu q)

theorem Keeps.withPc (h : Keeps s t) (p : Word) : Keeps s { t with pc := p } := h.regs _ _ _ _ _ _ _ _ _ _ _

end AfterDone

section WriteRules

variable {i : Instr} {s : State} {n : Word} {bytes : List Byte} {k : Nat}

/-- An instruction that writes one register and ends. -/
theorem exec_of_setReg {r : Reg} {v : Byte} (hx : exec i s = done n (s.setReg r v)) (hl : Listed i bytes k k) :
    ∃ t, exec i s = .next t ∧ t.reg r = v ∧ SameRegs [r] s t ∧ t.flags = s.flags ∧ t.sp = s.sp ∧ t.pc = s.pc + n ∧
      NothingStored s t ∧ SameRest s t ∧ Listed i bytes k k := by
  have hk : Keeps s (s.setReg r v) := (Keeps.refl s).setReg r v
  refine ⟨_, hx, ?reg, (sameRegs_setReg s v r).withPc _, setReg_flags s r v, setReg_sp s r v, ?pc,
    nothingStored_of (setReg_mem s r v) (setReg_outputs s r v), (hk.withPc _).sameRest (setReg_draws s r v), hl⟩
  case reg => rw [reg_withPc, reg_setReg_same]
  case pc => simp

/-- An instruction that loads one register with the byte read at an address and ends. -/
theorem exec_of_load {r : Reg} {addr : Word}
    (hx : exec i s = done n ((s.readByte addr).2.setReg r (s.readByte addr).1)) (hl : Listed i bytes k k) :
    ∃ t, exec i s = .next t ∧ t.reg r = (s.readByte addr).1 ∧ t.draws = (s.readByte addr).2.draws ∧
      SameRegs [r] s t ∧ t.flags = s.flags ∧ t.sp = s.sp ∧ t.pc = s.pc + n ∧ NothingStored s t ∧ SameControl s t ∧
      SameEnv s t ∧ Listed i bytes k k := by
  have hk : Keeps s ((s.readByte addr).2.setReg r (s.readByte addr).1) := ((Keeps.refl s).readByte addr).setReg r _
  have hr : SameRegs [r] s ((s.readByte addr).2.setReg r (s.readByte addr).1) :=
    (sameRegs_setReg _ _ r).of_reg (readByte_reg s addr)
  refine ⟨_, hx, ?reg, setReg_draws _ r _, hr.withPc _, ?flags, ?sp, ?pc, nothingStored_of ?mem ?outputs,
    (hk.withPc _).sameControl, (hk.withPc _).sameEnv, hl⟩
  case reg => rw [reg_withPc, reg_setReg_same]
  all_goals simp

/-- An instruction that stores one byte and ends. -/
theorem exec_of_store {addr : Word} {v : Byte} (hx : exec i s = done n (s.writeByte addr v)) (hl : Listed i bytes k k) :
    ∃ t, exec i s = .next t ∧ Stored s t [(addr, v)] ∧ SameRegs [] s t ∧ t.flags = s.flags ∧ t.sp = s.sp ∧
      t.pc = s.pc + n ∧ SameRest s t ∧ Listed i bytes k k := by
  have hk : Keeps s (s.writeByte addr v) := (Keeps.refl s).writeByte addr v
  refine ⟨_, hx, (stored_writeByte s addr v).congr rfl rfl, (sameRegs_writeByte s addr v).withPc _,
    writeByte_flags s addr v, writeByte_sp s addr v, ?pc, (hk.withPc _).sameRest (writeByte_draws s addr v), hl⟩
  simp

end WriteRules

section Rows

variable (dst src : Reg) (rp : Pair) (d8 b2 b3 : Byte) (d16 : Word) (s : State)

theorem exec_movOf : exec (.movOf dst src) s = movReg dst src s := by cases dst <;> cases src <;> rfl

theorem exec_loadOf : exec (.loadOf dst) s = movLoad dst s := by cases dst <;> rfl

theorem exec_storeOf : exec (.storeOf src) s = movStore src s := by cases src <;> rfl

theorem exec_mviOf : exec (.mviOf dst d8) s = mviReg dst d8 s := by cases dst <;> rfl

theorem exec_lxiOf : exec (.lxiOf rp d16) s = done 3 (s.setPair rp d16) := by cases rp <;> rfl

/-- A 16-bit operand is encoded low byte first. -/
@[simp] theorem withWord_joinBytes (op : Byte) : withWord op (joinBytes b3 b2) = [op, b2, b3] := by simp [withWord]

theorem listed_movOf : Listed (.movOf dst src) [0b01#2 ++ dst.code ++ src.code] 5 5 := by
  cases dst <;> cases src <;> exact ⟨rfl, rfl, rfl⟩

theorem listed_loadOf : Listed (.loadOf dst) [0b01#2 ++ dst.code ++ 0b110#3] 7 7 := by
  cases dst <;> exact ⟨rfl, rfl, rfl⟩

theorem listed_storeOf : Listed (.storeOf src) [0b01110#5 ++ src.code] 7 7 := by
  cases src <;> exact ⟨rfl, rfl, rfl⟩

theorem listed_mviOf : Listed (.mviOf dst d8) [0b00#2 ++ dst.code ++ 0b110#3, d8] 7 7 := by
  cases dst <;> exact ⟨rfl, rfl, rfl⟩

theorem listed_lxiOf : Listed (.lxiOf rp (joinBytes b3 b2)) [0b00#2 ++ rp.code ++ 0b0001#4, b2, b3] 10 10 := by
  cases rp <;> exact ⟨withWord_joinBytes b2 b3 _, rfl, rfl⟩

end Rows

/-- Settles O1: the write of one register. -/
theorem movRegister : Obligations.MovRegister := by
  unfold Obligations.MovRegister
  exact fun dst src s => exec_of_setReg (exec_movOf dst src s) (listed_movOf dst src)

/-- Settles O2: the load of one register, the address HL taken from the state before. -/
theorem movFromMemory : Obligations.MovFromMemory := by
  unfold Obligations.MovFromMemory
  exact fun dst s => exec_of_load (exec_loadOf dst s) (listed_loadOf dst)

/-- Settles O3: the store of one byte at HL. -/
theorem storeAtHL : Obligations.StoreAtHL := by
  unfold Obligations.StoreAtHL
  refine ⟨fun src s => ?movMr, fun d8 s => ?mviM⟩
  case movMr => exact exec_of_store (exec_storeOf src s) (listed_storeOf src)
  case mviM => exact exec_of_store (i := .mviM d8) rfl ⟨rfl, rfl, rfl⟩

/-- Settles O4: the write of one register. -/
theorem mviRegister : Obligations.MviRegister := by
  unfold Obligations.MviRegister
  exact fun dst d8 s => exec_of_setReg (exec_mviOf dst d8 s) (listed_mviOf dst d8)

/-- Settles O5: the write of one pair; its halves are the two operand bytes. -/
theorem lxiPair : Obligations.LxiPair := by
  unfold Obligations.LxiPair
  intro rp b2 b3 s
  have hk : Keeps s (s.setPair rp (joinBytes b3 b2)) := (Keeps.refl s).setPair rp _
  refine ⟨_, exec_lxiOf rp _ s, ?pairB, ?pairD, ?pairH, setPair_sp_eq s rp _, (sameRegs_setPair s rp _).withPc _,
    setPair_flags s rp _, ?pc, nothingStored_of (setPair_mem s rp _) (setPair_outputs s rp _),
    (hk.withPc _).sameRest (setPair_draws s rp _), listed_lxiOf rp b2 b3⟩
  case pairB | pairD | pairH =>
    rintro rfl
    exact ⟨hiByte_joinBytes b3 b2, loByte_joinBytes b3 b2⟩
  case pc => simp

/-- Settles O6: the load of A, from the direct address, from BC and from DE. -/
theorem loadAccumulator : Obligations.LoadAccumulator := by
  unfold Obligations.LoadAccumulator
  refine ⟨fun b2 b3 s => ?lda, fun s => ?ldaxB, fun s => ?ldaxD⟩
  case lda => exact exec_of_load (r := .a) rfl ⟨withWord_joinBytes b2 b3 0x3A, rfl, rfl⟩
  case ldaxB | ldaxD => exact exec_of_load (r := .a) rfl ⟨rfl, rfl, rfl⟩

/-- Settles O7: the store of A, at the direct address, at BC and at DE. -/
theorem storeAccumulator : Obligations.StoreAccumulator := by
  unfold Obligations.StoreAccumulator
  refine ⟨fun b2 b3 s => ?sta, fun s => ?staxB, fun s => ?staxD⟩
  case sta => exact exec_of_store rfl ⟨withWord_joinBytes b2 b3 0x32, rfl, rfl⟩
  case staxB | staxD => exact exec_of_store rfl ⟨rfl, rfl, rfl⟩

/-- Settles O9: the four registers by the definition of XCHG, the three others untouched, the rest from `Keeps`. -/
theorem exchangePairs : Obligations.ExchangePairs := by
  unfold Obligations.ExchangePairs
  intro s
  have hk : Keeps s { s with h := s.d, l := s.e, d := s.h, e := s.l } := (Keeps.refl s).regs _ _ _ _ _ _ _ _ _ _ _
  have hr : SameRegs [.h, .l, .d, .e] s { s with h := s.d, l := s.e, d := s.h, e := s.l } := by
    intro q hq
    cases q
    case a | b | c => rfl
    case d | e | h | l => simp at hq
  exact ⟨_, rfl, rfl, rfl, rfl, rfl, hr.withPc _, rfl, rfl, rfl, nothingStored_of rfl rfl, (hk.withPc _).sameRest rfl,
    rfl, rfl, rfl⟩

end Sys2Proof.Machine
end

section
/-! The arithmetic instructions on a register (41_arithmetic.md): that the sum and the flags the model computes are those
the statements speak of, and what a register written together with the flags leaves alone. -/

namespace Sys2Proof.Machine

section FlagMeaning

variable (f : Flags) (a v : Byte) (c : Bool) (x : Sum8)

theorem onesOf_eq_sum : onesOf v = v[7].toNat + v[6].toNat + v[5].toNat + v[4].toNat + v[3].toNat + v[2].toNat +
    v[1].toNat + v[0].toNat := by
  simp [onesOf, List.range, List.range.loop, List.countP_cons, Bool.toNat, Bool.cond_eq_ite]

/-- One more bit turns the parity of a count of ones exactly when it is 1. -/
theorem decide_even_add_toNat (n : Nat) (b : Bool) :
    decide ((n + b.toNat) % 2 = 0) = (decide (n % 2 = 0) ^^ b) := by
  cases b
  case false => simp
  case true =>
    have h : (n + 1) % 2 = 0 ↔ ¬ n % 2 = 0 := by omega
    rw [Bool.toNat_true, decide_eq_decide.mpr h, decide_not, Bool.xor_true]

/-- The exclusive or of R20 counts the ones of the result modulo 2. -/
theorem parity8_eq_decide : parity8 v = decide (onesOf v % 2 = 0) := by
  have h7 : decide (v[7].toNat % 2 = 0) = !v[7] := by cases v[7] <;> rfl
  simp only [onesOf_eq_sum, decide_even_add_toNat, h7, parity8, Bool.not_xor]

/-- Z, S and P as R23 computes them are those of the result (R18, R19, R20). -/
theorem resultFlags_szp : ResultFlags (f.szp v) v := by
  refine ⟨?z, ?s, parity8_eq_decide v⟩
  case z => simp [Flags.szp, BitVec.toNat_eq, Bool.beq_eq_decide_eq]
  case s => exact BitVec.msb_eq_decide v

theorem resultFlags_ofSum : ResultFlags (f.ofSum x) x.r := resultFlags_szp f x.r

theorem resultFlags_ofStep : ResultFlags (f.ofStep x) x.r := resultFlags_szp f x.r

theorem add8_r_toNat : (add8 a v c).r.toNat = (a.toNat + v.toNat + c.toNat) % 256 := BitVec.toNat_ofNat _ _

/-- `add8` (R24) with all five flags is the addition of the statements. -/
theorem sumOf_add8 : SumOf (add8 a v c).r (f.ofSum (add8 a v c)) a v c :=
  ⟨add8_r_toNat a v c, rfl, rfl, resultFlags_ofSum f _⟩

/-- Adding 1 carries out of bit 3 exactly from a low nibble 0xF. -/
theorem add8_one_ac : (add8 a 1 false).ac = decide (a.toNat % 16 = 15) := by
  have h : 15 < a.toNat % 16 + 1 ↔ a.toNat % 16 = 15 := by omega
  simp [add8, h]

end FlagMeaning

/-- An instruction that writes one register and the flags, and ends. -/
theorem exec_of_setReg_flags {i : Instr} {s : State} {n : Word} {bytes : List Byte} {k : Nat} {r : Reg} {v : Byte}
    {f : Flags} (hx : exec i s = done n { s.setReg r v with flags := f }) (hl : Listed i bytes k k) :
    ∃ t, exec i s = .next t ∧ t.reg r = v ∧ t.flags = f ∧ SameRegs [r] s t ∧ t.sp = s.sp ∧ t.pc = s.pc + n ∧
      NothingStored s t ∧ SameRest s t ∧ Listed i bytes k k := by
  have hreg (q : Reg) (p : Word) : State.reg { s.setReg r v with flags := f, pc := p } q = (s.setReg r v).reg q := by
    cases q <;> rfl
  have hk (p : Word) : Keeps s { s.setReg r v with flags := f, pc := p } :=
    ((Keeps.refl s).setReg r v).regs _ _ _ _ _ _ _ _ _ _ _
  refine ⟨_, hx, ?reg, rfl, ?same, setReg_sp s r v, ?pc, nothingStored_of (setReg_mem s r v) (setReg_outputs s r v),
    (hk _).sameRest (setReg_draws s r v), hl⟩
  case reg => exact (hreg r _).trans (reg_setReg_same s r v)
  case same => exact fun q hq => (hreg q _).trans (sameRegs_setReg s v r q hq)
  case pc => simp

section ArithmeticRows

variable (r : Reg) (s : State)

theorem exec_aluOf_add : exec (.aluOf .add r) s = done 1 (addA (s.reg r) false s) := by cases r <;> rfl

theorem exec_aluOf_adc : exec (.aluOf .adc r) s = done 1 (addA (s.reg r) s.flags.cy s) := by cases r <;> rfl

theorem exec_inrOf : exec (.inrOf r) s = done 1 (incReg r s) := by cases r <;> rfl

/-- The row ALU op r, with op and r in its opcode (30_encoding.md R67). -/
theorem listed_aluOf (op : AluOp) : Listed (.aluOf op r) [0b10#2 ++ op.code ++ r.code] 4 4 := by
  cases op <;> cases r <;> exact ⟨rfl, rfl, rfl⟩

theorem listed_inrOf : Listed (.inrOf r) [0b00#2 ++ r.code ++ 0b100#3] 5 5 := by
  cases r <;> exact ⟨rfl, rfl, rfl⟩

end ArithmeticRows

/-- An instruction that adds a byte and a carry to A, with all five flags, and ends. -/
theorem exec_of_addA {i : Instr} {s : State} {n : Word} {bytes : List Byte} {k : Nat} {v : Byte} {c : Bool}
    (hx : exec i s = done n (addA v c s)) (hl : Listed i bytes k k) :
    ∃ t, exec i s = .next t ∧ SumOf t.a t.flags s.a v c ∧ SameRegs [.a] s t ∧ t.sp = s.sp ∧ t.pc = s.pc + n ∧
      NothingStored s t ∧ SameRest s t ∧ Listed i bytes k k := by
  obtain ⟨t, ht, ha, hf, hframe⟩ := exec_of_setReg_flags (r := .a) hx hl
  have hsum : SumOf (t.reg .a) t.flags s.a v c := by
    rw [ha, hf]
    exact sumOf_add8 s.flags s.a v c
  exact ⟨t, ht, hsum, hframe⟩

/-- Settles O11: both forms are the addition to A; ADD with carry 0, ADC with CY as it stands before. -/
theorem addRegister : Obligations.AddRegister := by
  unfold Obligations.AddRegister
  refine ⟨fun r s => ?add, fun r s => ?adc⟩
  case add => exact exec_of_addA (exec_aluOf_add r s) (listed_aluOf r .add)
  case adc => exact exec_of_addA (exec_aluOf_adc r s) (listed_aluOf r .adc)

/-- Settles O16: the register gets the sum with 1, and of the flags of that sum CY alone is left out. -/
theorem incrementRegister : Obligations.IncrementRegister := by
  unfold Obligations.IncrementRegister
  intro r s
  obtain ⟨t, ht, hreg, hf, hframe⟩ := exec_of_setReg_flags (exec_inrOf r s) (listed_inrOf r)
  refine ⟨t, ht, ?value, ?cy, ?ac, ?result, hframe⟩
  case value => rw [hreg]; exact add8_r_toNat (s.reg r) 1 false
  case cy => rw [hf]; rfl
  case ac => rw [hf]; exact add8_one_ac (s.reg r)
  case result => rw [hreg, hf]; exact resultFlags_ofStep s.flags _

end Sys2Proof.Machine
end

section
/-! CMA, CMC and STC (42_logical.md R178, R179, R180): what an instruction that writes only the flags leaves alone, and
the one's complement as the number the statement speaks of. -/

namespace Sys2Proof.Machine

/-- The one's complement of a byte is its distance from 0xFF, with no borrow. -/
theorem toNat_complement (v : Byte) : (~~~v).toNat = 255 - v.toNat := BitVec.toNat_not

/-- Writing the flags reaches no register. -/
theorem sameRegs_withFlags (s : State) (f : Flags) : SameRegs [] s { s with flags := f } :=
  fun q _ => by cases q <;> rfl

/-- An instruction that writes only the flags and ends. -/
theorem exec_of_setFlags {i : Instr} {s : State} {n : Word} {bytes : List Byte} {k : Nat} {f : Flags}
    (hx : exec i s = done n { s with flags := f }) (hl : Listed i bytes k k) :
    ∃ t, exec i s = .next t ∧ t.flags = f ∧ SameRegs [] s t ∧ t.sp = s.sp ∧ t.pc = s.pc + n ∧ NothingStored s t ∧
      SameRest s t ∧ Listed i bytes k k := by
  have hk : Keeps s { s with flags := f } := (Keeps.refl s).regs _ _ _ _ _ _ _ _ _ _ _
  exact ⟨_, hx, rfl, (sameRegs_withFlags s f).withPc _, rfl, rfl, nothingStored_of rfl rfl, (hk.withPc _).sameRest rfl, hl⟩

/-- Settles O22: CMA writes the register A and no flag; CMC and STC write the flags, of which CY alone differs. -/
theorem complementAndCarry : Obligations.ComplementAndCarry := by
  unfold Obligations.ComplementAndCarry
  refine ⟨fun s => ?cma, fun s => ?cmc, fun s => ?stc⟩
  case cma =>
    have hx : exec .cma s = done 1 (s.setReg .a (~~~s.a)) := rfl
    obtain ⟨t, ht, ha, hframe⟩ := exec_of_setReg (bytes := [0x2F]) (k := 4) hx ⟨rfl, rfl, rfl⟩
    have hvalue : t.a.toNat = 255 - s.a.toNat := (congrArg BitVec.toNat ha).trans (toNat_complement s.a)
    exact ⟨t, ht, hvalue, hframe⟩
  case cmc | stc => exact exec_of_setFlags rfl ⟨rfl, rfl, rfl⟩

end Sys2Proof.Machine
end

section
/-! The decoder as the inverse of the encoder (30_encoding.md R60, R61, R67, R68, R70), and which opcode bytes it
refuses. An instruction is taken by its format; the opcode map is walked through once for each thing it is asked. -/

namespace Sys2Proof

section OpcodeMap

open Machine

variable {op b2 b3 : Byte} {i : Instr}

theorem one_le_instrLen (op : Byte) : 1 ≤ instrLen op := by
  unfold instrLen
  split_ifs <;> omega

theorem instrLen_le_three (op : Byte) : instrLen op ≤ 3 := by
  unfold instrLen
  split_ifs <;> omega

/-- A statement about every byte, from its 256 values. -/
theorem forall_byte {P : Byte → Prop} (value : ∀ n < 256, P (BitVec.ofNat 8 n)) (v : Byte) : P v := by
  have hv := value v.toNat v.isLt
  rwa [BitVec.ofNat_toNat, BitVec.setWidth_eq] at hv

/-- The row of an opcode byte is the instruction that byte and its operand bytes spell. -/
theorem encode_of_decodeOp (h : decodeOp op b2 b3 = some i) : encode i = [op, b2, b3].take (instrLen op) := by
  induction op using forall_byte with
  | value n hn =>
    interval_cases n
    all_goals cases h
    all_goals
      simp only [encode, withWord_joinBytes]
      rfl

/-- The opcode map has an instruction of the variant for every byte that is not of the unassigned set. -/
theorem decodeOp_any_wellFormed (hasRimSim : Bool) (op b2 b3 : Byte) :
    (decodeOp op b2 b3).any (Instr.wellFormed hasRimSim) = decide (op ∉ unassignedCodes hasRimSim) := by
  induction op using forall_byte with
  | value n hn =>
    interval_cases n
    all_goals cases hasRimSim <;> rfl

end OpcodeMap

section Decode

open Machine

variable {hasRimSim : Bool} {op : Byte} {operands bytes rest : List Byte} {i : Instr}

theorem decode_cons_eq_ok_iff : decode (op :: operands) = .ok (i, rest) ↔
    instrLen op - 1 ≤ operands.length ∧ decodeOp op (operands.getD 0 0) (operands.getD 1 0) = some i ∧
      operands.drop (instrLen op - 1) = rest := by
  simp only [decode]
  by_cases hlen : operands.length < instrLen op - 1
  · rw [if_pos hlen]
    exact ⟨nofun, fun ⟨hle, _⟩ => absurd hle (not_le.mpr hlen)⟩
  · rw [if_neg hlen]
    cases decodeOp op (operands.getD 0 0) (operands.getD 1 0) with
    | none => exact ⟨nofun, nofun⟩
    | some j => simp only [Except.ok.injEq, Prod.mk.injEq, Option.some.injEq, not_lt.mp hlen, true_and]

theorem decodeOn_eq_ok_iff :
    decodeOn hasRimSim bytes = .ok (i, rest) ↔ decode bytes = .ok (i, rest) ∧ i.wellFormed hasRimSim = true := by
  unfold decodeOn
  cases hd : decode bytes with
  | error e => simp
  | ok p =>
    obtain ⟨j, tail⟩ := p
    by_cases hw : j.wellFormed hasRimSim = true
    · simp only [hw, if_true, Except.ok.injEq, Prod.mk.injEq]
      exact ⟨fun h => ⟨h, h.1 ▸ hw⟩, And.left⟩
    · simp only [hw, Except.ok.injEq, Prod.mk.injEq]
      exact ⟨nofun, fun ⟨h, hi⟩ => absurd (h.1 ▸ hi) hw⟩

/-- The operand bytes the decoder looks at are the first two of those that follow the opcode byte. -/
theorem take_two_operands {n : Nat} (hn : n ≤ 2) (hl : n ≤ operands.length) :
    [operands.getD 0 0, operands.getD 1 0].take n = operands.take n := by
  match n, operands with
  | 0, _ => rfl
  | 1, _ :: _ => rfl
  | 2, _ :: _ :: _ => rfl

theorem encode_append_of_decode (h : decode bytes = .ok (i, rest)) : bytes = encode i ++ rest := by
  cases bytes with
  | nil => cases h
  | cons op operands =>
    obtain ⟨hlen, hop, hrest⟩ := decode_cons_eq_ok_iff.mp h
    obtain ⟨n, hn⟩ : ∃ n, instrLen op = n + 1 := ⟨_, (Nat.sub_add_cancel (one_le_instrLen op)).symm⟩
    have h3 := instrLen_le_three op
    have htake := take_two_operands (n := n) (by omega) (by omega : n ≤ operands.length)
    rw [encode_of_decodeOp hop, hn, List.take_succ_cons, htake, ← hrest, hn, List.cons_append, Nat.add_sub_cancel,
      List.take_append_drop]

theorem decode_encode_append (i : Instr) (rest : List Byte) : decode (encode i ++ rest) = .ok (i, rest) := by
  have hword (c : Word → Instr) (d : Word) : some (c (joinBytes (hiByte d) (loByte d))) = some (c d) := by
    rw [joinBytes_hiByte_loByte]
  cases i
  case lxiB | lxiD | lxiH | lxiSp | shld | lhld | sta | lda | jmp | jnz | jz | jnc | jc | jpo | jpe | jp | jm | call
      | cnz | cz | cnc | cc | cpo | cpe | cp | cm =>
    exact decode_three_bytes rfl (hword _ _)
  case mviA | mviB | mviC | mviD | mviE | mviH | mviL | mviM | adi | aci | sui | sbi | ani | xri | ori | cpi | inPort
      | outPort =>
    exact decode_two_bytes rfl fun _ => rfl
  all_goals exact decode_one_byte rfl fun _ _ => rfl

/-- The length the first byte gives is the number of bytes of the encoding: the decoder leaves nothing of it over. -/
theorem instrLen_head_encode (i : Instr) : ∃ op operands, encode i = op :: operands ∧
    instrLen op = operands.length + 1 := by
  have h := decode_encode_append i []
  rw [List.append_nil] at h
  cases he : encode i with
  | nil => rw [he] at h; cases h
  | cons op operands =>
    rw [he] at h
    obtain ⟨hlen, -, hrest⟩ := decode_cons_eq_ok_iff.mp h
    have hdrop := List.drop_eq_nil_iff.mp hrest
    have h1 := one_le_instrLen op
    exact ⟨op, operands, rfl, by omega⟩

/-- With enough bytes after it, an opcode byte is accepted exactly when the variant assigns it. -/
theorem decodeOn_accepts_iff (hlen : instrLen op - 1 ≤ operands.length) :
    (∃ i tail, decodeOn hasRimSim (op :: operands) = .ok (i, tail)) ↔ op ∉ unassignedCodes hasRimSim := by
  rw [← decide_eq_true_iff (p := op ∉ unassignedCodes hasRimSim),
    ← decodeOp_any_wellFormed hasRimSim op (operands.getD 0 0) (operands.getD 1 0), Option.any_eq_true]
  simp only [decodeOn_eq_ok_iff, decode_cons_eq_ok_iff]
  exact ⟨fun ⟨i, _, ⟨_, hop, _⟩, hw⟩ => ⟨i, hop, hw⟩, fun ⟨i, hop, hw⟩ => ⟨i, _, ⟨hlen, hop, rfl⟩, hw⟩⟩

end Decode

/-- Settles O39: decoding by the format of the instruction; the variant's check is the hypothesis. -/
theorem decodeOfEncode : Obligations.DecodeOfEncode := by
  unfold Obligations.DecodeOfEncode
  exact fun _ i rest hw => decodeOn_eq_ok_iff.mpr ⟨decode_encode_append i rest, hw⟩

/-- Settles O40: the row the decoder found spells the opcode byte and the operand bytes it took. -/
theorem encodeOfDecode : Obligations.EncodeOfDecode := by
  unfold Obligations.EncodeOfDecode
  intro hasRimSim bytes rest i h
  obtain ⟨hd, hw⟩ := decodeOn_eq_ok_iff.mp h
  exact ⟨encode_append_of_decode hd, hw⟩

end Sys2Proof
end

section
/-! The fetch (30_encoding.md R70, 20_memory.md R54) and what a step does with it: run the decoded instruction, or
refuse an unassigned opcode byte by name (R68). -/

namespace Sys2Proof.Machine

section FetchedBytes

variable {s : State} {i : Instr} {rest : List Byte}

theorem readBytes_length (s : State) (a : Word) (n : Nat) : (s.readBytes a n).1.length = n := by
  induction n generalizing s a with
  | zero => rfl
  | succ k ih => simp [State.readBytes, ih]

/-- The fetched bytes: the opcode byte at pc and as many operand bytes as it says. -/
theorem fetch_fst (s : State) : ∃ operands, s.fetch.1 = (s.readByte s.pc).1 :: operands ∧
    operands.length = instrLen (s.readByte s.pc).1 - 1 :=
  ⟨_, rfl, readBytes_length _ _ _⟩

theorem fetch_decodes_iff : (∃ i rest, decodeOn s.platform.hasRimSim s.fetch.1 = .ok (i, rest)) ↔
    (s.readByte s.pc).1 ∉ unassignedCodes s.platform.hasRimSim := by
  obtain ⟨operands, hf, hlen⟩ := fetch_fst s
  rw [hf]
  exact decodeOn_accepts_iff hlen.ge

theorem fetchInstr_of_decodeOn (h : decodeOn s.platform.hasRimSim s.fetch.1 = .ok (i, rest)) :
    s.fetchInstr = .ok (i, { s.fetch.2 with eiDelay := false }) := by
  simp only [State.fetchInstr, h, State.beginInstr]

theorem fetchInstr_of_unassigned (h : (s.readByte s.pc).1 ∈ unassignedCodes s.platform.hasRimSim) :
    s.fetchInstr = .error (.unassignedOpcode s.pc (s.readByte s.pc).1) := by
  unfold State.fetchInstr
  cases hd : decodeOn s.platform.hasRimSim s.fetch.1 with
  | ok p => exact absurd h (fetch_decodes_iff.mp ⟨p.1, p.2, hd⟩)
  | error e => simp only [hd]; rfl

theorem add_one_add_ofNat (a : Word) (k : Nat) : a + 1 + BitVec.ofNat 16 k = a + BitVec.ofNat 16 (k + 1) := by
  rw [BitVec.ofNat_add, BitVec.add_assoc, BitVec.add_comm 1]
  rfl

/-- Where memory holds the bytes of an instruction, the fetch gives them and changes nothing. -/
theorem fetch_of_memory (h : ∀ (k : Nat) (v : Byte), (encode i)[k]? = some v →
      IsMemory s (s.pc + BitVec.ofNat 16 k) ∧ s.peek (s.pc + BitVec.ofNat 16 k) = v) :
    s.fetch = (encode i, s) := by
  obtain ⟨op, operands, he, hlen⟩ := instrLen_head_encode i
  rw [he] at h ⊢
  have hpc : s.readByte s.pc = (op, s) := by
    obtain ⟨hm, hv⟩ := h 0 op rfl
    rw [BitVec.add_zero] at hm hv
    rw [readByte_memory hm, hv]
  have hoperand (k : Nat) (hk : k < operands.length) : IsMemory s (s.pc + 1 + BitVec.ofNat 16 k) ∧
      s.peek (s.pc + 1 + BitVec.ofNat 16 k) = operands[k] := by
    rw [add_one_add_ofNat]
    exact h (k + 1) _ (List.getElem?_eq_getElem hk)
  have hrest : s.readBytes (s.pc + 1) operands.length = (operands, s) := by
    rw [readBytes_memory _ _ fun k hk => (hoperand k hk).1]
    refine Prod.ext (List.ext_getElem (by simp) fun k _ hk => ?_) rfl
    simpa using (hoperand k hk).2
  simp only [State.fetch, hpc, hlen, Nat.add_sub_cancel, hrest]

end FetchedBytes

section StepForms

variable {s : State}

theorem step_of_resetIn (hr : s.resetIn = true) : step s = .next s.applyReset := by simp [step, hr]

theorem step_of_halted (hr : s.resetIn = false) (hh : s.halted = true) : step s = boundary s := by simp [step, hr, hh]

theorem step_of_decodeOn {i : Instr} {rest : List Byte} (hr : s.resetIn = false) (hh : s.halted = false)
    (h : decodeOn s.platform.hasRimSim s.fetch.1 = .ok (i, rest)) :
    step s = andThen (exec i { s.fetch.2 with eiDelay := false }) boundary := by
  simp [step, hr, hh, fetchInstr_of_decodeOn h]

theorem step_of_unassigned (hr : s.resetIn = false) (hh : s.halted = false)
    (h : (s.readByte s.pc).1 ∈ unassignedCodes s.platform.hasRimSim) :
    step s = .refused (.unassignedOpcode s.pc (s.readByte s.pc).1) := by
  simp [step, hr, hh, fetchInstr_of_unassigned h]

end StepForms

/-- Settles O41: both directions by the opcode map, the refusal by the bytes the fetch gives. -/
theorem unassignedRefused : Obligations.UnassignedRefused := by
  unfold Obligations.UnassignedRefused
  refine ⟨fun hasRimSim op b2 b3 rest => decodeOn_accepts_iff ?enough, fun s hr hh hop => step_of_unassigned hr hh hop⟩
  have h3 := instrLen_le_three op
  simp only [List.length_cons]
  omega

/-- Settles O42: the fetch decodes, so the step has no other branch. -/
theorem stepRunsDecoded : Obligations.StepRunsDecoded := by
  unfold Obligations.StepRunsDecoded
  exact fun s i rest hr hh hd => step_of_decodeOn hr hh hd

/-- Settles O43: the fetch gives the encoding, which decodes back. -/
theorem stepOfEncoding : Obligations.StepOfEncoding := by
  unfold Obligations.StepOfEncoding
  intro s i hr hh hw hmem
  have hf := fetch_of_memory hmem
  have hd : decodeOn s.platform.hasRimSim s.fetch.1 = .ok (i, []) := by
    rw [hf, ← List.append_nil (encode i)]
    exact decodeOfEncode _ i [] hw
  rw [step_of_decodeOn hr hh hd, hf]

end Sys2Proof.Machine
end

section
/-! What every step keeps (10_state.md section 5, 20_memory.md sections 4 and 6, 60_exceptions.md sections 2 to 4). Each
statement is taken by `step_cases`: RESET IN, the boundary of a halted machine, or an instruction and the boundary after
it. -/

namespace Sys2Proof.Machine

/-- What every step leaves alone: the platform, the canonical form of memory, every byte that is not RAM, and the events
already put out. -/
structure Preserves (s t : State) : Prop where
  platform : t.platform = s.platform
  wf       : Memory.wf s.mem = true → Memory.wf t.mem = true
  peek     : ∀ x : Word, s.kindAt x ≠ .ram → t.peek x = s.peek x
  outputs  : s.outputs <+: t.outputs

section Preserving

variable {s t u : State} {i : Instr}

theorem Preserves.of_eq (hp : t.platform = s.platform) (hm : t.mem = s.mem) (ho : t.outputs = s.outputs) :
    Preserves s t :=
  ⟨hp, fun hw => hm ▸ hw, fun _ _ => peek_congr hm, ⟨[], (List.append_nil _).trans ho.symm⟩⟩

theorem Preserves.trans (h1 : Preserves s u) (h2 : Preserves u t) : Preserves s t where
  platform := h2.platform.trans h1.platform
  wf := fun hw => h2.wf (h1.wf hw)
  peek := fun x hx => (h2.peek x (by rwa [kindAt_congr h1.platform])).trans (h1.peek x hx)
  outputs := h1.outputs.trans h2.outputs

theorem Keeps.preserves (h : Keeps s t) : Preserves s t := ⟨h.platform, h.wf, h.peek, h.outputs⟩

theorem exec_next_keeps (hi : i ∉ [Instr.ei, .di, .hlt, .sim]) (h : exec i s = .next t) : Keeps s t := by
  obtain ⟨u, hu, hk⟩ := exec_keeps i s hi
  obtain rfl : u = t := by rw [hu] at h; injection h
  exact hk

/-- What an instruction can do: EI, DI, HLT and SIM write the interrupt state, any other keeps what `Keeps` says. -/
theorem exec_next_cases (h : exec i s = .next t) :
    (i = .ei ∧ t = { s with
      pc := s.pc + 1, ie := true, eiDelay := if s.platform.irq = .gk8085 then true else s.eiDelay }) ∨
    (i = .di ∧ t = { s with
      pc := s.pc + 1, ie := false, eiDelay := if s.platform.irq = .gk8085 then false else s.eiDelay }) ∨
    (i = .hlt ∧ t = { s with pc := s.pc + 1, halted := true }) ∨
    (i = .sim ∧ t = { setMasks s.a s with pc := s.pc + 1 }) ∨ Keeps s t := by
  by_cases hi : i ∈ [Instr.ei, .di, .hlt, .sim]
  · simp only [List.mem_cons, List.not_mem_nil, or_false] at hi
    rcases hi with rfl | rfl | rfl | rfl <;> injection h with h
    · exact .inl ⟨rfl, h.symm⟩
    · exact .inr (.inl ⟨rfl, h.symm⟩)
    · exact .inr (.inr (.inl ⟨rfl, h.symm⟩))
    · exact .inr (.inr (.inr (.inl ⟨rfl, h.symm⟩)))
  · exact .inr (.inr (.inr (.inr (exec_next_keeps hi h))))

theorem exec_preserves (h : exec i s = .next t) : Preserves s t := by
  rcases exec_next_cases h with ⟨rfl, rfl⟩ | ⟨rfl, rfl⟩ | ⟨rfl, rfl⟩ | ⟨rfl, rfl⟩ | hk
  · exact .of_eq rfl rfl rfl
  · exact .of_eq rfl rfl rfl
  · exact .of_eq rfl rfl rfl
  · exact .of_eq rfl rfl rfl
  · exact hk.preserves

/-- The state in which an accepted source pushes pc: the halt over, IE cleared, R75 too for RST 7.5 (R312). -/
def State.acknowledge (s : State) (src : IntSource) : State :=
  { s with halted := false, ie := false, r75 := if src = .rst75 then false else s.r75 }

theorem enterInterrupt_eq (s : State) (src : IntSource) (target : Word) :
    s.enterInterrupt src target = { (s.acknowledge src).push16 s.pc with pc := target } := rfl

theorem enterInterrupt_preserves (src : IntSource) (target : Word) : Preserves s (s.enterInterrupt src target) :=
  have hk : Keeps (s.acknowledge src) (s.enterInterrupt src target) :=
    ((Keeps.refl (s.acknowledge src)).push16 s.pc).withPc target
  .trans (u := s.acknowledge src) (.of_eq rfl rfl rfl) hk.preserves

theorem boundary_preserves (h : boundary s = .next t) : Preserves s t := by
  rcases boundary_cases h with ⟨_, rfl⟩ | ⟨_, _, rfl⟩ | ⟨_, src, target, _, _, rfl⟩
  · exact .of_eq rfl rfl rfl
  · exact .of_eq rfl rfl rfl
  · exact .trans (u := s.samplePins) (.of_eq rfl rfl rfl) (enterInterrupt_preserves src target)

theorem step_preserves (h : step s = .next t) : Preserves s t := by
  rcases step_cases h with ⟨_, rfl⟩ | ⟨_, _, hb⟩ | ⟨i, u, _, he, hb⟩
  · exact .of_eq rfl rfl rfl
  · exact boundary_preserves hb
  · have hf : Preserves s { s with draws := s.fetch.2.draws, eiDelay := false } := .of_eq rfl rfl rfl
    exact (hf.trans (exec_preserves he)).trans (boundary_preserves hb)

end Preserving

section EiDelay

variable {s t : State} {i : Instr}

theorem boundary_eiDelay (h : boundary s = .next t) : t.eiDelay = s.eiDelay := by
  obtain ⟨_, _, _, _, _, _, _, _, _, _, _, _, hd, _⟩ := boundary_frame h
  exact hd

/-- No instruction but EI sets ei_delay. -/
theorem exec_eiDelay (hi : i ≠ .ei) (h : exec i s = .next t) (hs : s.eiDelay = false) : t.eiDelay = false := by
  rcases exec_next_cases h with ⟨rfl, rfl⟩ | ⟨rfl, rfl⟩ | ⟨rfl, rfl⟩ | ⟨rfl, rfl⟩ | hk
  · exact absurd rfl hi
  · exact ite_eq_left_iff.mpr fun _ => hs
  · exact hs
  · exact hs
  · exact hk.eiDelay.trans hs

/-- Without gk8085 not even EI does (D14). -/
theorem exec_eiDelay_of_none (hq : s.platform.irq = .none) (h : exec i s = .next t) (hs : s.eiDelay = false) :
    t.eiDelay = false := by
  by_cases hi : i = .ei
  · subst hi
    injection h with h
    rw [← h]
    exact (if_neg (hq ▸ nofun)).trans hs
  · exact exec_eiDelay hi h hs

theorem step_eiDelay_of_none (hq : s.platform.irq = .none) (hs : s.eiDelay = false) (h : step s = .next t) :
    t.eiDelay = false := by
  rcases step_cases h with ⟨_, rfl⟩ | ⟨_, _, hb⟩ | ⟨i, u, _, he, hb⟩
  · rfl
  · exact (boundary_eiDelay hb).trans hs
  · exact (boundary_eiDelay hb).trans (exec_eiDelay_of_none (by exact hq) he rfl)

end EiDelay

/-- Settles O47: the memory of the reset state is empty, its ei_delay 0. -/
theorem resetHasInv : Obligations.ResetHasInv := by
  unfold Obligations.ResetHasInv
  exact ⟨rfl, fun _ => rfl⟩

/-- Settles O48: the canonical form is preserved by every step, and without gk8085 no step sets ei_delay. -/
theorem stepKeepsInv : Obligations.StepKeepsInv := by
  unfold Obligations.StepKeepsInv
  rintro s t ⟨hw, hd⟩ h
  have hp := step_preserves h
  exact ⟨hp.wf hw, fun hq => step_eiDelay_of_none (hp.platform ▸ hq) (hd (hp.platform ▸ hq)) h⟩

/-- Settles O50: three of the things every step preserves. -/
theorem onlyRamChanges : Obligations.OnlyRamChanges := by
  unfold Obligations.OnlyRamChanges
  intro s t h
  have hp := step_preserves h
  exact ⟨hp.peek, hp.outputs, hp.platform⟩

/-- Settles O49: a halted step is the boundary, which without gk8085 does nothing. -/
theorem haltedStep : Obligations.HaltedStep := by
  unfold Obligations.HaltedStep
  intro s hh hr
  refine ⟨fun hq => ?none, fun _ => step_of_halted hr hh⟩
  rw [step_of_halted hr hh, boundary, hq]

/-- Settles O46: the values of `State.reset` and of `State.applyReset`. -/
theorem resetState : Obligations.ResetState := by
  unfold Obligations.ResetState
  refine ⟨⟨rfl, rfl, rfl, rfl, rfl, rfl, rfl, rfl, rfl, rfl, rfl, rfl, fun _ => rfl⟩, fun s hr => ?step⟩
  exact ⟨_, step_of_resetIn hr, rfl, rfl, rfl, rfl, rfl, rfl, rfl, rfl, rfl, nothingStored_of rfl rfl, rfl, rfl, rfl⟩

section Masks

variable {s t : State} {i : Instr}

/-- The three masks and SOD hold what they held. -/
def SameMasks (s t : State) : Prop := t.m55 = s.m55 ∧ t.m65 = s.m65 ∧ t.m75 = s.m75 ∧ t.sod = s.sod

theorem exec_sameMasks (hi : i ≠ .sim) (h : exec i s = .next t) : SameMasks s t := by
  rcases exec_next_cases h with ⟨rfl, rfl⟩ | ⟨rfl, rfl⟩ | ⟨rfl, rfl⟩ | ⟨rfl, rfl⟩ | hk
  · exact ⟨rfl, rfl, rfl, rfl⟩
  · exact ⟨rfl, rfl, rfl, rfl⟩
  · exact ⟨rfl, rfl, rfl, rfl⟩
  · exact absurd rfl hi
  · exact ⟨hk.m55, hk.m65, hk.m75, hk.sod⟩

theorem boundary_sameMasks (h : boundary s = .next t) : SameMasks s t := by
  obtain ⟨_, _, _, _, _, _, _, _, h55, h65, h75, hsod, _⟩ := boundary_frame h
  exact ⟨h55, h65, h75, hsod⟩

end Masks

/-- Settles O54: neither an instruction other than SIM nor a boundary writes them. -/
theorem masksOnlyBySim : Obligations.MasksOnlyBySim := by
  unfold Obligations.MasksOnlyBySim
  intro s t h hr hsim
  rcases step_cases h with ⟨hreset, _⟩ | ⟨_, _, hb⟩ | ⟨i, u, hruns, he, hb⟩
  · exact absurd hreset (by simp [hr])
  · exact boundary_sameMasks hb
  · obtain ⟨e55, e65, e75, esod⟩ := exec_sameMasks (by rintro rfl; exact hsim hruns) he
    obtain ⟨b55, b65, b75, bsod⟩ := boundary_sameMasks hb
    exact ⟨b55.trans e55, b65.trans e65, b75.trans e75, bsod.trans esod⟩

section AcceptedSource

variable {s t : State} {src : IntSource} {target : Word}

/-- The source the boundary finds highest is the accepted one of the statements. -/
theorem highestSource_samplePins_iff : s.samplePins.highestSource s.pinsNow = some src ↔ AcceptedAt s src := by
  rw [highestSource_some, AcceptedAt, eligible_samplePins]
  simp only [← eligible_samplePins, Bool.not_eq_true]

theorem highestSource_samplePins_none_iff :
    s.samplePins.highestSource s.pinsNow = none ↔ ∀ src, ¬EligibleAt s src := by
  rw [highestSource_none]
  simp only [← eligible_samplePins, Bool.not_eq_true]

/-- The entry of the model is the entry of the statements. -/
theorem entryAddress_eq_ok_iff : entryAddress s.pinsNow src = .ok target ↔ EntersAt s src target := by
  cases src
  case intr =>
    cases hi : s.pinsNow.intrInstr <;> simp [entryAddress, EntersAt, hi, eq_comm]
  all_goals simp [entryAddress, EntersAt, eq_comm]

/-- When the boundary refuses: INTR is accepted and its device supplies another instruction. -/
theorem entryAddress_eq_error_iff {r : Refusal} : entryAddress s.pinsNow src = .error r ↔
    src = .intr ∧ ∃ op, s.pinsNow.intrInstr = .other op ∧ r = .intrInstruction op := by
  cases src
  case intr =>
    cases hi : s.pinsNow.intrInstr <;> simp [entryAddress, hi, eq_comm]
  all_goals simp [entryAddress]

theorem boundary_of_none (hq : s.platform.irq = .none) : boundary s = .next s := by simp [boundary, hq]

theorem boundary_of_quiet (hq : s.platform.irq = .gk8085) (h : ∀ src, ¬EligibleAt s src) :
    boundary s = .next s.samplePins := by
  simp [boundary, hq, highestSource_samplePins_none_iff.mpr h]

theorem boundary_of_accepted (hq : s.platform.irq = .gk8085) (ha : AcceptedAt s src) (he : EntersAt s src target) :
    boundary s = .next (s.samplePins.enterInterrupt src target) := by
  simp [boundary, hq, highestSource_samplePins_iff.mpr ha, entryAddress_eq_ok_iff.mpr he]

theorem boundary_of_other {op : Byte} (hq : s.platform.irq = .gk8085) (ha : AcceptedAt s .intr)
    (ho : s.pinsNow.intrInstr = .other op) : boundary s = .refused (.intrInstruction op) := by
  simp [boundary, hq, highestSource_samplePins_iff.mpr ha, entryAddress_eq_error_iff.mpr ⟨rfl, op, ho, rfl⟩]

/-- What a boundary can do when it answers a next state, in the words of the statements. -/
theorem boundary_next_cases (h : boundary s = .next t) :
    (s.platform.irq = .none ∧ t = s) ∨ (s.platform.irq = .gk8085 ∧ t = s.samplePins) ∨
    (s.platform.irq = .gk8085 ∧ ∃ src target, AcceptedAt s src ∧ EntersAt s src target ∧
      t = s.samplePins.enterInterrupt src target) := by
  rcases boundary_cases h with h | ⟨hq, _, ht⟩ | ⟨hq, src, target, hs, he, ht⟩
  · exact .inl h
  · exact .inr (.inl ⟨hq, ht⟩)
  · exact .inr (.inr ⟨hq, src, target, highestSource_samplePins_iff.mp hs, entryAddress_eq_ok_iff.mp he, ht⟩)

theorem enterInterrupt_halted : (s.enterInterrupt src target).halted = false := by simp [State.enterInterrupt]

theorem enterInterrupt_ie : (s.enterInterrupt src target).ie = false := by simp [State.enterInterrupt]

/-- A boundary never raises IE. -/
theorem boundary_ie (h : boundary s = .next t) (hs : s.ie = false) : t.ie = false := by
  rcases boundary_next_cases h with ⟨_, rfl⟩ | ⟨_, rfl⟩ | ⟨_, _, _, _, _, rfl⟩
  · exact hs
  · exact hs
  · exact enterInterrupt_ie

/-- A boundary never halts. -/
theorem boundary_halted (h : boundary s = .next t) (hs : s.halted = false) : t.halted = false := by
  rcases boundary_next_cases h with ⟨_, rfl⟩ | ⟨_, rfl⟩ | ⟨_, _, _, _, _, rfl⟩
  · exact hs
  · exact hs
  · exact enterInterrupt_halted

end AcceptedSource

section SwitchAndHalt

variable {s t : State} {i : Instr}

theorem exec_ie (hi : i ≠ .ei) (h : exec i s = .next t) (hs : s.ie = false) : t.ie = false := by
  rcases exec_next_cases h with ⟨rfl, rfl⟩ | ⟨rfl, rfl⟩ | ⟨rfl, rfl⟩ | ⟨rfl, rfl⟩ | hk
  · exact absurd rfl hi
  · exact rfl
  · exact hs
  · exact hs
  · exact hk.ie.trans hs

theorem exec_halted (hi : i ≠ .hlt) (h : exec i s = .next t) : t.halted = s.halted := by
  rcases exec_next_cases h with ⟨rfl, rfl⟩ | ⟨rfl, rfl⟩ | ⟨rfl, rfl⟩ | ⟨rfl, rfl⟩ | hk
  · exact rfl
  · exact rfl
  · exact absurd rfl hi
  · exact rfl
  · exact hk.halted

end SwitchAndHalt

/-- Settles O55: a boundary neither raises IE nor halts, and ends a halt only by entering the accepted source. -/
theorem enableAndHaltSources : Obligations.EnableAndHaltSources := by
  unfold Obligations.EnableAndHaltSources
  intro s t h
  rcases step_cases h with ⟨hr, rfl⟩ | ⟨_, hh, hb⟩ | ⟨i, u, hruns, he, hb⟩
  case inl => exact ⟨nofun, nofun, fun _ _ => .inl hr⟩
  case inr.inl =>
    refine ⟨fun hi ht => absurd (boundary_ie hb hi) (by simp [ht]), fun hs => absurd hh (by simp [hs]),
      fun _ ht => .inr ?_⟩
    rcases boundary_next_cases hb with ⟨_, rfl⟩ | ⟨_, rfl⟩ | ⟨hq, src, target, ha, hen, rfl⟩
    · exact absurd hh (by simp [ht])
    · exact absurd hh (by simp [show s.halted = false from ht])
    · exact ⟨hq, src, target, ha, hen, rfl⟩
  case inr.inr =>
    have hh : s.halted = false := hruns.2.1
    refine ⟨fun hi ht => ?ie, fun _ ht => ?halt, fun hs => absurd hs (by simp [hh])⟩
    case ie =>
      by_contra hei
      have hu := exec_ie (by rintro rfl; exact hei hruns) he hi
      exact absurd (boundary_ie hb hu) (by simp [ht])
    case halt =>
      by_contra hhlt
      have hu := (exec_halted (by rintro rfl; exact hhlt hruns) he).trans hh
      exact absurd (boundary_halted hb hu) (by simp [ht])

section Refusals

variable {s t : State} {i : Instr}

/-- No instruction uses up a sample of the pins. -/
theorem exec_schedule (h : exec i s = .next t) : t.schedule = s.schedule := by
  rcases exec_next_cases h with ⟨rfl, rfl⟩ | ⟨rfl, rfl⟩ | ⟨rfl, rfl⟩ | ⟨rfl, rfl⟩ | hk
  · exact rfl
  · exact rfl
  · exact rfl
  · exact rfl
  · exact hk.schedule

/-- A boundary answers a next state, or refuses what the device of an accepted INTR supplies (R314). -/
theorem boundary_outcomes (s : State) : (∃ t, boundary s = .next t) ∨
    ∃ op, boundary s = .refused (.intrInstruction op) ∧ s.platform.irq = .gk8085 ∧ s.pinsNow.intr = true ∧
      s.pinsNow.intrInstr = .other op := by
  cases hb : boundary s with
  | next t => exact .inl ⟨t, rfl⟩
  | fault r => exact nomatch r
  | refused r =>
    obtain ⟨hq, src, hs, he⟩ := boundary_refused hb
    obtain ⟨rfl, op, hop, rfl⟩ := entryAddress_eq_error_iff.mp he
    obtain ⟨⟨hintr, _⟩, _⟩ := highestSource_samplePins_iff.mp hs
    exact .inr ⟨op, rfl, hq, hintr, hop⟩

end Refusals

/-- Settles O44: an instruction completes, so a step that refuses does so in the fetch or at the boundary. -/
theorem stepOutcomes : Obligations.StepOutcomes := by
  unfold Obligations.StepOutcomes
  intro s
  by_cases hr : s.resetIn = true
  · exact .inl ⟨_, step_of_resetIn hr⟩
  have hr : s.resetIn = false := Bool.eq_false_of_not_eq_true hr
  by_cases hh : s.halted = true
  · rw [step_of_halted hr hh]
    exact (boundary_outcomes s).imp_right .inr
  have hh : s.halted = false := Bool.eq_false_of_not_eq_true hh
  by_cases hop : (s.readByte s.pc).1 ∈ unassignedCodes s.platform.hasRimSim
  · exact .inr (.inl ⟨_, step_of_unassigned hr hh hop, rfl, hop⟩)
  obtain ⟨i, rest, hd⟩ := fetch_decodes_iff.mpr hop
  obtain ⟨u, hu⟩ := exec_completes i { s.fetch.2 with eiDelay := false }
  have hf := fetch_state s
  have hp : u.platform = s.platform := (exec_preserves hu).platform.trans (by rw [hf])
  have hpins : u.pinsNow = s.pinsNow := by
    rw [State.pinsNow, exec_schedule hu, hf]
    rfl
  rw [step_of_decodeOn hr hh hd, hu, ← hp, ← hpins]
  exact (boundary_outcomes u).imp_right .inr

section Accepting

variable {s : State} {src : IntSource} {target : Word}

theorem acknowledge_reg (q : Reg) : (s.acknowledge src).reg q = s.reg q := by cases q <;> rfl

/-- Entering stores pc and changes pc and SP beside what the acknowledgement clears. -/
theorem stored_enterInterrupt :
    Stored s (s.enterInterrupt src target) [(s.sp - 1, hiByte s.pc), (s.sp - 2, loByte s.pc)] :=
  ((stored_push16 (s.acknowledge src) s.pc).of_eq rfl rfl rfl).congr rfl rfl

theorem sameRegs_enterInterrupt : SameRegs [] s (s.enterInterrupt src target) :=
  ((sameRegs_push16 (s.acknowledge src) s.pc).withPc target).of_reg acknowledge_reg

theorem enterInterrupt_r75 :
    (s.enterInterrupt src target).r75 = if src = .rst75 then false else s.r75 := by simp [State.enterInterrupt]

theorem enterInterrupt_schedule : (s.enterInterrupt src target).schedule = s.schedule := by simp [State.enterInterrupt]

end Accepting

/-- Settles O51: the boundary enters the accepted source from the state that has sampled the pins. -/
theorem interruptTaken : Obligations.InterruptTaken := by
  unfold Obligations.InterruptTaken
  intro s src target hq ha he
  have hb := boundary_of_accepted hq ha he
  obtain ⟨_, _, _, _, _, _, _, hflags, h55, h65, h75, hsod, hdelay, hplat, hdraws, hreset⟩ := boundary_frame hb
  have hregs : SameRegs [] s (s.samplePins.enterInterrupt src target) :=
    sameRegs_enterInterrupt.of_reg fun q => by cases q <;> rfl
  exact ⟨_, hb, rfl, enterInterrupt_halted, enterInterrupt_ie, enterInterrupt_r75, rfl,
    (stored_enterInterrupt (s := s.samplePins)).of_eq rfl rfl rfl, hregs, hflags, h55, h65, h75, hsod, hdelay, hdraws,
    hplat, enterInterrupt_schedule, hreset⟩

/-- Settles O52: the three boundaries without an acceptance. -/
theorem quietBoundary : Obligations.QuietBoundary := by
  unfold Obligations.QuietBoundary
  exact ⟨fun s hq => boundary_of_none hq, fun s hq h => boundary_of_quiet hq h,
    fun s op hq ha ho => boundary_of_other hq ha ho⟩

section EnableDelay

variable {s : State}

/-- EI is one byte, so the fetch reads nothing after it. -/
theorem fetch_of_ei {rest : List Byte} (h : decodeOn s.platform.hasRimSim s.fetch.1 = .ok (.ei, rest)) :
    s.fetch.2 = (s.readByte s.pc).2 := by
  obtain ⟨operands, hf, -⟩ := fetch_fst s
  have hbytes := (encodeOfDecode _ _ _ _ h).1
  have hop : (s.readByte s.pc).1 = 0xFB := by
    rw [hf] at hbytes
    exact (List.cons.inj hbytes).1
  simp only [State.fetch, hop]
  rfl

/-- While ei_delay is 1 every source but TRAP is held off. -/
theorem not_eligibleAt_of_eiDelay (hd : s.eiDelay = true) (ht : s.pinsNow.trap = false) (src : IntSource) :
    ¬EligibleAt s src := by
  cases src <;> simp [EligibleAt, hd, ht]

/-- EI and the boundary after it, under gk8085 and without TRAP. -/
theorem exec_ei_boundary (hq : s.platform.irq = .gk8085) (ht : s.pinsNow.trap = false) :
    andThen (exec .ei s) boundary =
      .next { s with
        pc := s.pc + 1, ie := true, eiDelay := true, schedule := s.schedule.tail, r75 := r75AtBoundary s } := by
  have hx : exec .ei s = .next { s with pc := s.pc + 1, ie := true, eiDelay := true } := by
    show done 1 _ = _
    rw [if_pos hq]
    rfl
  rw [hx]
  exact boundary_of_quiet hq (not_eligibleAt_of_eiDelay rfl ht)

end EnableDelay

/-- Settles O53: the boundary after EI is quiet because ei_delay is 1; any other instruction leaves ei_delay as it was
when the instruction began, 0. -/
theorem enableDelay : Obligations.EnableDelay := by
  unfold Obligations.EnableDelay
  refine ⟨fun s hq ⟨hr, hh, rest, hd⟩ ht => ?ei, fun s t i ⟨hr, hh, rest, hd⟩ hi h => ?other⟩
  case ei =>
    obtain ⟨d, hf⟩ : ∃ d, s.fetch.2 = { s with draws := d } := ⟨_, fetch_state s⟩
    have hdraws : d = (s.readByte s.pc).2.draws := by rw [← fetch_of_ei hd, hf]
    have hstep := step_of_decodeOn hr hh hd
    rw [hf, exec_ei_boundary (by exact hq) (by exact ht)] at hstep
    exact ⟨_, hstep, rfl, rfl, rfl, rfl, fun q _ => by cases q <;> rfl, rfl, nothingStored_of rfl rfl, rfl, rfl, rfl,
      rfl,
      rfl, rfl, rfl, hdraws, rfl, rfl⟩
  case other =>
    rw [step_of_decodeOn hr hh hd] at h
    obtain ⟨u, hu⟩ := exec_completes i { s.fetch.2 with eiDelay := false }
    rw [hu] at h
    exact (boundary_eiDelay h).trans (exec_eiDelay hi hu rfl)

end Sys2Proof.Machine
end

section
/-! Two machines that differ only in what the variant or the interrupt model has no use for (60_exceptions.md R308,
R309): the masks, R75, SOD and the pin samples to come. Every instruction but RIM and SIM runs alike on both. -/

namespace Sys2Proof.Machine

/-- The masks, R75 and SOD, the interrupt state only RIM, SIM and the acceptance of interrupts look at. -/
structure Latches where
  m55 : Bool
  m65 : Bool
  m75 : Bool
  r75 : Bool
  sod : Bool

/-- The state with other latches and other pin samples to come. -/
def State.withLatches (s : State) (x : Latches) (pins : List PinSample) : State :=
  { s with m55 := x.m55, m65 := x.m65, m75 := x.m75, r75 := x.r75, sod := x.sod, schedule := pins }

/-- The latches a state holds. -/
def State.latches (s : State) : Latches := ⟨s.m55, s.m65, s.m75, s.r75, s.sod⟩

section Operations

variable (s : State) (x : Latches) (pins : List PinSample) (a v : Word) (b : Byte) (n : Nat)

theorem readByte_withLatches : (s.withLatches x pins).readByte a =
    ((s.readByte a).1, (s.readByte a).2.withLatches x pins) := by
  rcases readByte_cases s a with ⟨hk, h⟩ | ⟨hk, h⟩ | ⟨hk, h⟩
  · rw [h]
    exact readByte_memory hk
  all_goals
    rw [h, State.readByte, show (s.withLatches x pins).kindAt a = _ from hk]
    rfl

theorem writeByte_withLatches : (s.withLatches x pins).writeByte a b = (s.writeByte a b).withLatches x pins := by
  unfold State.writeByte
  rw [show (s.withLatches x pins).kindAt a = s.kindAt a from rfl]
  cases s.kindAt a <;> rfl

theorem readWord_withLatches : (s.withLatches x pins).readWord a =
    ((s.readWord a).1, (s.readWord a).2.withLatches x pins) := by
  simp only [State.readWord, readByte_withLatches]

theorem push16_withLatches : (s.withLatches x pins).push16 v = (s.push16 v).withLatches x pins := by
  simp only [State.push16, writeByte_withLatches]
  rfl

theorem pop16_withLatches : (s.withLatches x pins).pop16 = (s.pop16.1, s.pop16.2.withLatches x pins) := by
  simp only [State.pop16, readWord_withLatches]
  rfl

theorem readBytes_withLatches : (s.withLatches x pins).readBytes a n =
    ((s.readBytes a n).1, (s.readBytes a n).2.withLatches x pins) := by
  induction n generalizing s a with
  | zero => rfl
  | succ k ih => simp only [State.readBytes, readByte_withLatches, ih]

theorem fetch_withLatches : (s.withLatches x pins).fetch = (s.fetch.1, s.fetch.2.withLatches x pins) := by
  simp only [State.fetch, readByte_withLatches, readBytes_withLatches]
  rfl

/-- The fetch gives the same instruction, or the same refusal; `f` is the change as it acts on what the fetch leaves. -/
theorem fetchInstr_withLatches {f : State → State}
    (hf : ∀ d, State.withLatches { s with draws := d, eiDelay := false } x pins =
      f { s with draws := d, eiDelay := false }) :
    (s.withLatches x pins).fetchInstr = s.fetchInstr.map fun p => (p.1, f p.2) := by
  have hmap : (s.withLatches x pins).fetchInstr = s.fetchInstr.map fun p => (p.1, p.2.withLatches x pins) := by
    simp only [State.fetchInstr, fetch_withLatches, show (s.withLatches x pins).platform = s.platform from rfl]
    cases decodeOn s.platform.hasRimSim s.fetch.1 <;> rfl
  rw [hmap]
  cases hs : s.fetchInstr with
  | error r => rfl
  | ok p =>
    have hu := (fetchInstr_ok (i := p.1) (u := p.2) hs).2
    exact congrArg (fun t => Except.ok (p.1, t)) (by rw [hu, hf])

end Operations

section Instructions

variable (s : State) (x : Latches) (pins : List PinSample)

theorem loadA_withLatches (n addr : Word) :
    loadA n addr (s.withLatches x pins) = mapNext (·.withLatches x pins) (loadA n addr s) := by
  simp only [loadA, readByte_withLatches]
  rfl

theorem storeA_withLatches (n addr : Word) :
    storeA n addr (s.withLatches x pins) = mapNext (·.withLatches x pins) (storeA n addr s) := by
  show done n ((s.withLatches x pins).writeByte addr s.a) = _
  rw [writeByte_withLatches]
  rfl

theorem viaM_withLatches (u : Byte → State → State)
    (hu : ∀ m t, u m (State.withLatches t x pins) = (u m t).withLatches x pins) :
    viaM u (s.withLatches x pins) = mapNext (·.withLatches x pins) (viaM u s) := by
  show done 1 (u ((s.withLatches x pins).readByte s.hl).1 ((s.withLatches x pins).readByte s.hl).2) = _
  rw [readByte_withLatches, hu]
  rfl

theorem storeAtHL_withLatches (n : Word) (v : Byte) :
    done n ((s.withLatches x pins).writeM v) = mapNext (·.withLatches x pins) (done n (s.writeM v)) := by
  show done n ((s.withLatches x pins).writeByte s.hl v) = _
  rw [writeByte_withLatches]
  rfl

theorem push_withLatches (v : Word) :
    done 1 ((s.withLatches x pins).push16 v) = mapNext (·.withLatches x pins) (done 1 (s.push16 v)) := by
  rw [push16_withLatches]
  rfl

theorem popInto_withLatches (rp : StackPair) :
    popInto rp (s.withLatches x pins) = mapNext (·.withLatches x pins) (popInto rp s) := by
  simp only [popInto, pop16_withLatches]
  cases rp <;> rfl

theorem jumpIf_withLatches (taken : Bool) (addr : Word) :
    jumpIf taken addr (s.withLatches x pins) = mapNext (·.withLatches x pins) (jumpIf taken addr s) := by
  cases taken <;> rfl

theorem callIf_withLatches (taken : Bool) (addr : Word) :
    callIf taken addr (s.withLatches x pins) = mapNext (·.withLatches x pins) (callIf taken addr s) := by
  cases taken
  · rfl
  · simp only [callIf, push16_withLatches]
    rfl

theorem returnIf_withLatches (taken : Bool) :
    returnIf taken (s.withLatches x pins) = mapNext (·.withLatches x pins) (returnIf taken s) := by
  cases taken
  · rfl
  · simp only [returnIf, State.returnFromStack, pop16_withLatches]
    rfl

theorem restart_withLatches (k : Fin 8) :
    restart k (s.withLatches x pins) = mapNext (·.withLatches x pins) (restart k s) := by
  simp only [restart, push16_withLatches]
  rfl

/-- The step of the byte at HL: read, store the result, set the flags but CY (41_arithmetic.md R143, R144). -/
def stepM (f : Byte → Sum8) (s : State) : State :=
  { s.readM.2.writeM (f s.readM.1).r with flags := s.flags.ofStep (f s.readM.1) }

theorem exec_inrM (s : State) : exec .inrM s = done 1 (stepM (add8 · 1 false) s) := rfl

theorem exec_dcrM (s : State) : exec .dcrM s = done 1 (stepM (sub8 · 1 false) s) := rfl

theorem stepM_withLatches (f : Byte → Sum8) : stepM f (s.withLatches x pins) = (stepM f s).withLatches x pins := by
  have hread : (s.withLatches x pins).readM = (s.readM.1, s.readM.2.withLatches x pins) :=
    readByte_withLatches s x pins s.hl
  simp only [stepM, hread]
  rw [State.writeM, writeByte_withLatches]
  rfl

/-- Every instruction but RIM and SIM runs alike with other latches and other pin samples to come. -/
theorem exec_withLatches {i : Instr} (hrim : i ≠ .rim) (hsim : i ≠ .sim) :
    exec i (s.withLatches x pins) = mapNext (·.withLatches x pins) (exec i s) := by
  cases i
  case rim => exact absurd rfl hrim
  case sim => exact absurd rfl hsim
  case lda | ldaxB | ldaxD => exact loadA_withLatches s x pins _ _
  case sta | staxB | staxD => exact storeA_withLatches s x pins _ _
  case mviM | movMB | movMC | movMD | movME | movMH | movML | movMA => exact storeAtHL_withLatches s x pins _ _
  case movBM | movCM | movDM | movEM | movHM | movLM | movAM =>
    exact viaM_withLatches s x pins (fun m t => t.setReg _ m) fun _ _ => rfl
  case addM => exact viaM_withLatches s x pins (fun m t => addA m false t) fun _ _ => rfl
  case adcM => exact viaM_withLatches s x pins (fun m t => addA m t.flags.cy t) fun _ _ => rfl
  case subM => exact viaM_withLatches s x pins (fun m t => subA m false t) fun _ _ => rfl
  case sbbM => exact viaM_withLatches s x pins (fun m t => subA m t.flags.cy t) fun _ _ => rfl
  case anaM | xraM | oraM | cmpM => exact viaM_withLatches s x pins _ fun _ _ => rfl
  case inrM => exact congrArg (done 1) (stepM_withLatches s x pins (add8 · 1 false))
  case dcrM => exact congrArg (done 1) (stepM_withLatches s x pins (sub8 · 1 false))
  case jnz | jz | jnc | jc | jpo | jpe | jp | jm => exact jumpIf_withLatches s x pins _ _
  case call => exact callIf_withLatches s x pins true _
  case cnz | cz | cnc | cc | cpo | cpe | cp | cm => exact callIf_withLatches s x pins _ _
  case ret => exact returnIf_withLatches s x pins true
  case rnz | rz | rnc | rc | rpo | rpe | rp | rm => exact returnIf_withLatches s x pins _
  case rst0 | rst1 | rst2 | rst3 | rst4 | rst5 | rst6 | rst7 => exact restart_withLatches s x pins _
  case pushB | pushD | pushH | pushPsw => exact push_withLatches s x pins _
  case popB | popD | popH | popPsw => exact popInto_withLatches s x pins _
  case shld addr =>
    show done 3 (((s.withLatches x pins).writeByte addr s.l).writeByte (addr + 1) s.h) = _
    rw [writeByte_withLatches, writeByte_withLatches]
    rfl
  case lhld addr =>
    show done 3 (((s.withLatches x pins).readWord addr).2.setPair .h ((s.withLatches x pins).readWord addr).1) = _
    rw [readWord_withLatches]
    rfl
  case xthl =>
    show execXthl _ = _
    simp only [execXthl, show (s.withLatches x pins).sp = s.sp from rfl, readWord_withLatches, writeByte_withLatches]
    rfl
  all_goals rfl

end Instructions

section OtherPins

variable {s t : State} {i : Instr}

/-- The state with other pin samples to come. -/
def State.withPins (s : State) (pins : List PinSample) : State := { s with schedule := pins }

theorem exec_latches (hi : i ≠ .sim) (h : exec i s = .next t) : t.latches = s.latches := by
  rcases exec_next_cases h with ⟨rfl, rfl⟩ | ⟨rfl, rfl⟩ | ⟨rfl, rfl⟩ | ⟨rfl, rfl⟩ | hk
  · exact rfl
  · exact rfl
  · exact rfl
  · exact absurd rfl hi
  · rw [State.latches, hk.m55, hk.m65, hk.m75, hk.r75, hk.sod]
    rfl

/-- Without gk8085 no instruction looks at the pins, RIM included: its two levels read as 0 (D13). -/
theorem exec_withPins (hq : s.platform.irq = .none) (i : Instr) (pins : List PinSample) :
    exec i (s.withPins pins) = mapNext (·.withPins pins) (exec i s) := by
  by_cases hrim : i = .rim
  · subst hrim
    have h65 : (s.withPins pins).pending65 = s.pending65 := by simp [State.pending65, State.withPins, hq]
    have h55 : (s.withPins pins).pending55 = s.pending55 := by simp [State.pending55, State.withPins, hq]
    show execRim _ = mapNext _ (execRim s)
    simp only [execRim, rimByte, h65, h55]
    rfl
  by_cases hsim : i = .sim
  · subst hsim
    rfl
  obtain ⟨t, ht⟩ := exec_completes i s
  have hx : exec i (s.withPins pins) = mapNext (·.withLatches s.latches pins) (exec i s) :=
    exec_withLatches s s.latches pins hrim hsim
  have hlatches : t.withLatches s.latches pins = t.withPins pins := by
    rw [← exec_latches hsim ht]
    rfl
  rw [hx, ht]
  exact congrArg _ hlatches

end OtherPins

section TwoSteps

variable {s : State}

/-- A step commutes with a change `f` of the state when the reset, the boundary and the fetched instruction with its
boundary do; `f` keeps RESET IN and the halt. -/
theorem step_commutes {f : State → State} (hresetIn : (f s).resetIn = s.resetIn) (hhalted : (f s).halted = s.halted)
    (hreset : s.resetIn = true → (f s).applyReset = f s.applyReset)
    (hboundary : boundary (f s) = mapNext f (boundary s))
    (hfetch : (f s).fetchInstr = s.fetchInstr.map fun p => (p.1, f p.2))
    (hexec : ∀ i u, s.fetchInstr = .ok (i, u) →
      andThen (exec i (f u)) boundary = mapNext f (andThen (exec i u) boundary)) :
    step (f s) = mapNext f (step s) := by
  unfold step
  rw [hresetIn, hhalted, hfetch]
  by_cases hr : s.resetIn = true
  · simp only [hr, if_true, hreset hr]
    rfl
  by_cases hh : s.halted = true
  · simp only [hr, hh, if_true, hboundary]
    rfl
  cases hf : s.fetchInstr with
  | error r =>
    simp only [hr, hh]
    rfl
  | ok p =>
    simp only [hr, hh]
    exact hexec p.1 p.2 hf

end TwoSteps

/-- Settles O56: neither an instruction nor, without gk8085, a boundary looks at the pins. -/
theorem pinsWithoutInfluence : Obligations.PinsWithoutInfluence := by
  unfold Obligations.PinsWithoutInfluence
  intro s pins hq
  have hboundary {t : State} (ht : t.platform = s.platform) :
      boundary (t.withPins pins) = mapNext (·.withPins pins) (boundary t) := by
    have hqt : t.platform.irq = .none := ht ▸ hq
    rw [boundary_of_none hqt]
    exact boundary_of_none hqt
  refine step_commutes (f := (·.withPins pins)) rfl rfl (fun _ => rfl) (hboundary rfl) 
    (fetchInstr_withLatches s s.latches pins (f := (·.withPins pins)) fun _ => rfl) ?exec
  intro i u hf
  obtain ⟨-, hu⟩ := fetchInstr_ok hf
  obtain ⟨t, ht⟩ := exec_completes i u
  have hplat : u.platform = s.platform := by rw [hu]
  rw [exec_withPins (by rw [hplat, hq]) i pins, ht]
  exact hboundary ((exec_preserves ht).platform.trans hplat)

section SmallVariant

variable {s : State} {x : Latches}

/-- The state with other latches. -/
def State.withLatchesOnly (s : State) (x : Latches) : State := s.withLatches x s.schedule

theorem samplePins_withLatchesOnly (hv : s.platform.hasRimSim = false) :
    (s.withLatchesOnly x).samplePins = s.samplePins.withLatchesOnly x := by
  simp [State.samplePins, State.withLatchesOnly, State.withLatches, hv]

/-- The 8080A has INTR alone (R308), which no latch masks. -/
theorem eligible_withLatchesOnly (hv : s.platform.hasRimSim = false) (p : PinSample) (src : IntSource) :
    (s.withLatchesOnly x).eligible p src = s.eligible p src := by
  cases src <;> simp [State.eligible, State.withLatchesOnly, State.withLatches, hv]

theorem eq_intr_of_eligible (hv : s.platform.hasRimSim = false) {p : PinSample} {src : IntSource}
    (h : s.eligible p src = true) : src = .intr := by
  cases src <;> simp [State.eligible, hv] at h ⊢

theorem enterInterrupt_withLatchesOnly (target : Word) :
    (s.withLatchesOnly x).enterInterrupt .intr target = (s.enterInterrupt .intr target).withLatchesOnly x := by
  have hpush : ((s.acknowledge .intr).withLatches x s.schedule).push16 s.pc =
      ((s.acknowledge .intr).push16 s.pc).withLatches x s.schedule := push16_withLatches _ x s.schedule s.pc
  have hs : (s.enterInterrupt .intr target).schedule = s.schedule := enterInterrupt_schedule
  rw [State.withLatchesOnly, State.withLatchesOnly, hs, enterInterrupt_eq, enterInterrupt_eq]
  exact congrArg (fun t : State => { t with pc := target }) hpush

theorem boundary_withLatchesOnly (hv : s.platform.hasRimSim = false) :
    boundary (s.withLatchesOnly x) = mapNext (·.withLatchesOnly x) (boundary s) := by
  have hv1 : s.samplePins.platform.hasRimSim = false := hv
  have hhigh : (s.samplePins.withLatchesOnly x).highestSource s.pinsNow = s.samplePins.highestSource s.pinsNow := by
    simp only [State.highestSource, eligible_withLatchesOnly hv1]
  have hpins : (s.withLatchesOnly x).pinsNow = s.pinsNow := rfl
  have hplat : (s.withLatchesOnly x).platform = s.platform := rfl
  simp only [boundary, samplePins_withLatchesOnly hv, hpins, hplat, hhigh]
  cases s.platform.irq with
  | none => rfl
  | gk8085 =>
    cases hsrc : s.samplePins.highestSource s.pinsNow with
    | none => rfl
    | some src =>
      obtain rfl := eq_intr_of_eligible hv1 (highestSource_some.mp hsrc).1
      simp only [enterInterrupt_withLatchesOnly]
      cases entryAddress s.pinsNow .intr <;> rfl

theorem exec_withLatchesOnly {i : Instr} (hi : i.wellFormed false = true) (s : State) :
    exec i (s.withLatchesOnly x) = mapNext (·.withLatchesOnly x) (exec i s) := by
  obtain ⟨t, ht⟩ := exec_completes i s
  have hx := exec_withLatches s x s.schedule (i := i) (by rintro rfl; cases hi) (by rintro rfl; cases hi)
  rw [State.withLatchesOnly, hx, ht, ← exec_schedule ht]
  rfl

end SmallVariant

/-- Settles O57: the variant decodes neither RIM nor SIM, and its boundaries accept INTR alone. -/
theorem smallVariantIgnoresMasks : Obligations.SmallVariantIgnoresMasks := by
  unfold Obligations.SmallVariantIgnoresMasks
  intro s x55 x65 x75 latch out hv hr
  let x : Latches := ⟨x55, x65, x75, latch, out⟩
  refine step_commutes (f := (·.withLatchesOnly x)) rfl rfl (fun h => ?reset) (boundary_withLatchesOnly hv)
    (fetchInstr_withLatches s x s.schedule (f := (·.withLatchesOnly x)) fun _ => rfl) ?exec
  case reset => exact absurd h (by simp [hr])
  case exec =>
    intro i u hf
    obtain ⟨⟨rest, hd⟩, hu⟩ := fetchInstr_ok hf
    obtain ⟨t, ht⟩ := exec_completes i u
    have hw : i.wellFormed false = true := hv ▸ (encodeOfDecode _ _ _ _ hd).2
    have hvt : t.platform.hasRimSim = false := by rw [(exec_preserves ht).platform, hu, hv]
    rw [exec_withLatchesOnly hw, ht]
    exact boundary_withLatchesOnly hvt

end Sys2Proof.Machine
end

section
/-! Where an instruction leaves pc (10_state.md R15), and one byte of memory by the kind of its address (20_memory.md
R42, R43, R50). -/

namespace Sys2Proof.Machine

theorem exists_cond {P : Cond → Prop} :
    (∃ cc, P cc) ↔ P .nz ∨ P .z ∨ P .nc ∨ P .c ∨ P .po ∨ P .pe ∨ P .p ∨ P .m := by
  refine ⟨fun ⟨cc, h⟩ => ?_, ?_⟩
  · cases cc <;> tauto
  · rintro (h | h | h | h | h | h | h | h) <;> exact ⟨_, h⟩

theorem pc_of_done {s t u : State} {n : Word} (h : done n u = .next t) (hu : u.pc = s.pc) : t.pc = s.pc + n := by
  injection h with h
  rw [← h, ← hu]

/-- Settles O45: each of the other instructions ends with `done` and its length, from a state whose pc is unchanged. -/
theorem pcAdvances : Obligations.PcAdvances := by
  unfold Obligations.PcAdvances
  intro i s t hi h
  cases i
  case jmp | jnz | jz | jnc | jc | jpo | jpe | jp | jm | call | cnz | cz | cnc | cc | cpo | cpe | cp | cm | ret | rnz
      | rz | rnc | rc | rpo | rpe | rp | rm | pchl =>
    simp [Instr.isTransfer, exists_cond, Instr.jumpOf, Instr.callOf, Instr.returnOf] at hi
  case rst0 | rst1 | rst2 | rst3 | rst4 | rst5 | rst6 | rst7 =>
    simp [Instr.isTransfer, Fin.exists_fin_succ, Instr.rstOf] at hi
  case lda | ldaxB | ldaxD | movBM | movCM | movDM | movEM | movHM | movLM | movAM | addM | adcM | subM | sbbM | anaM
      | xraM | oraM | cmpM =>
    exact pc_of_done h (readByte_pc s _)
  case sta | staxB | staxD | mviM | movMB | movMC | movMD | movME | movMH | movML | movMA =>
    exact pc_of_done h (writeByte_pc s _ _)
  case inrM | dcrM => exact pc_of_done h ((writeByte_pc _ _ _).trans (readByte_pc s _))
  case shld => exact pc_of_done h ((writeByte_pc _ _ _).trans (writeByte_pc s _ _))
  case lhld => exact pc_of_done h (readWord_pc s _)
  case xthl => exact pc_of_done h (((writeByte_pc _ _ _).trans (writeByte_pc _ _ _)).trans (readWord_pc s _))
  case pushB | pushD | pushH | pushPsw => exact pc_of_done h (push16_pc s _)
  case popB | popD | popH | popPsw => exact pc_of_done h (pop16_pc s)
  all_goals exact pc_of_done h rfl

section ByKind

variable {s : State} {a : Word}

theorem writeByte_rom (v : Byte) (h : s.kindAt a = .rom) : s.writeByte a v = s := by simp [State.writeByte, h]

theorem writeByte_device (v : Byte) (h : s.kindAt a = .device) :
    s.writeByte a v = { s with outputs := s.outputs ++ [.device a v] } := by simp [State.writeByte, h]

theorem writeByte_absent (v : Byte) (h : s.kindAt a = .absent) : s.writeByte a v = s := by simp [State.writeByte, h]

theorem readByte_device (h : s.kindAt a = .device) :
    s.readByte a = (Config.deviceByte s.draws a, { s with draws := s.draws + 1 }) := by simp [State.readByte, h]

theorem readByte_absent (h : s.kindAt a = .absent) :
    s.readByte a = (Config.absentByte s.draws a, { s with draws := s.draws + 1 }) := by simp [State.readByte, h]

theorem peek_writeByte_same {v : Byte} (h : s.kindAt a = .ram) : (s.writeByte a v).peek a = v := by
  rw [peek_writeByte, if_pos ⟨rfl, h⟩]

theorem peek_writeByte_other {v : Byte} {x : Word} (h : x ≠ a) : (s.writeByte a v).peek x = s.peek x := by
  rw [peek_writeByte, if_neg fun hx => h hx.1]

/-- Reading RAM: the byte memory holds, and no change. -/
theorem readByte_ram (h : s.kindAt a = .ram) : s.readByte a = (s.peek a, s) := readByte_memory (.inl h)

/-- A byte written to RAM is read back. -/
theorem readByte_writeByte_same {v : Byte} (h : s.kindAt a = .ram) :
    (s.writeByte a v).readByte a = (v, s.writeByte a v) := by
  rw [readByte_ram (kindAt_writeByte.trans h), peek_writeByte_same h]

end ByKind

/-- Settles O37: the access by the kind of the address, the kind by the first region that holds it. -/
theorem memoryByKind : Obligations.MemoryByKind := by
  unfold Obligations.MemoryByKind
  intro s addr v
  refine ⟨readByte_memory, fun h => ⟨readByte_device h, writeByte_device v h⟩,
    fun h => ⟨readByte_absent h, writeByte_absent v h⟩, writeByte_rom v, fun h => ⟨?same, ?other⟩, ?region, ?noRegion⟩
  case same => rw [readByte_writeByte_same h]
  case other => exact fun x hx => peek_writeByte_other hx
  case region =>
    intro before after r hmap hbefore h1 h2
    rw [State.kindAt, hmap]
    exact kindIn_append hbefore h1 h2
  case noRegion => exact kindIn_ram

end Sys2Proof.Machine
end

section
/-! LHLD, SHLD, SPHL, PCHL, INX and DCX (40_data_transfer.md, 44_machine_stack_io.md section 5, 43_branch.md section 5,
41_arithmetic.md section 5): the moves of 16 bits, which write no flag. -/

namespace Sys2Proof.Machine

section Words

variable {s t : State} {n : Word}

@[simp] theorem readWord_reg (s : State) (a : Word) (q : Reg) : (s.readWord a).2.reg q = s.reg q := by
  cases q <;> simp [State.reg]

/-- Two bytes stored, the first one first. -/
theorem stored_writeByte_writeByte (s : State) (a b : Word) (v w : Byte) :
    Stored s ((s.writeByte a v).writeByte b w) [(a, v), (b, w)] :=
  (stored_writeByte s a v).writeByte (writeByte_platform s a v)

/-- Writing A, the flags, pc and the count of draws reaches no other register. -/
theorem sameRegs_withA (s : State) (v : Byte) (f : Flags) (p : Word) (d : Nat) :
    SameRegs [.a] s { s with a := v, flags := f, pc := p, draws := d } := by
  intro q hq
  cases q
  case a => simp at hq
  all_goals rfl

theorem sameRegs_withSp (s : State) (w : Word) : SameRegs [] s { s with sp := w } := fun q _ => by cases q <;> rfl

/-- An instruction that writes one pair or SP and ends. -/
theorem exec_of_setPair {i : Instr} {bytes : List Byte} {k : Nat} {rp : Pair} {w : Word}
    (hx : exec i s = done n (s.setPair rp w)) (hl : Listed i bytes k k) :
    ∃ t, exec i s = .next t ∧ t.pair rp = w ∧ SameRegs rp.halves s t ∧ (rp ≠ .sp → t.sp = s.sp) ∧ t.flags = s.flags ∧
      t.pc = s.pc + n ∧ NothingStored s t ∧ SameRest s t ∧ Listed i bytes k k := by
  have hk : Keeps s (s.setPair rp w) := (Keeps.refl s).setPair rp w
  have hpair : State.pair { s.setPair rp w with pc := (s.setPair rp w).pc + n } rp = (s.setPair rp w).pair rp := by
    cases rp <;> rfl
  refine ⟨_, hx, hpair.trans (pair_setPair_same s rp w), (sameRegs_setPair s rp w).withPc _, fun hrp => ?stack,
    setPair_flags s rp w, ?pc, nothingStored_of (setPair_mem s rp w) (setPair_outputs s rp w),
    (hk.withPc _).sameRest (setPair_draws s rp w), hl⟩
  case stack => exact (setPair_sp_eq s rp w).trans (if_neg hrp)
  case pc => simp

end Words

section PairRows

variable (rp : Pair) (s : State)

theorem exec_inxOf : exec (.inxOf rp) s = done 1 (s.setPair rp (s.pair rp + 1)) := by cases rp <;> rfl

theorem exec_dcxOf : exec (.dcxOf rp) s = done 1 (s.setPair rp (s.pair rp - 1)) := by cases rp <;> rfl

theorem listed_inxOf : Listed (.inxOf rp) [0b00#2 ++ rp.code ++ 0b0011#4] 5 5 := by
  cases rp <;> exact ⟨rfl, rfl, rfl⟩

theorem listed_dcxOf : Listed (.dcxOf rp) [0b00#2 ++ rp.code ++ 0b1011#4] 5 5 := by
  cases rp <;> exact ⟨rfl, rfl, rfl⟩

end PairRows

/-- Settles O19: the write of one pair. -/
theorem stepPair : Obligations.StepPair := by
  unfold Obligations.StepPair
  exact ⟨fun rp s => exec_of_setPair (exec_inxOf rp s) (listed_inxOf rp),
    fun rp s => exec_of_setPair (exec_dcxOf rp s) (listed_dcxOf rp)⟩

/-- Settles O8: LHLD writes the pair HL with the two bytes read, SHLD stores its halves. -/
theorem directHL : Obligations.DirectHL := by
  unfold Obligations.DirectHL
  refine ⟨fun b2 b3 s => ?lhld, fun b2 b3 s => ?shld⟩
  case lhld =>
    have hk : Keeps s ((s.readWord (joinBytes b3 b2)).2.setPair .h (s.readWord (joinBytes b3 b2)).1) :=
      ((Keeps.refl s).readWord _).setPair .h _
    have hregs : SameRegs [.h, .l] s ((s.readWord (joinBytes b3 b2)).2.setPair .h (s.readWord (joinBytes b3 b2)).1) :=
      (sameRegs_setPair _ .h _).of_reg (readWord_reg s _)
    exact ⟨_, rfl, loByte_joinBytes _ _, hiByte_joinBytes _ _, rfl, hregs.withPc _, readWord_flags s _, readWord_sp s _,
      congrArg (· + 3) (readWord_pc s _), nothingStored_of (readWord_mem s _) (readWord_outputs s _),
      (hk.withPc _).sameControl, (hk.withPc _).sameEnv, withWord_joinBytes b2 b3 0x2A, rfl, rfl⟩
  case shld =>
    have hk : Keeps s ((s.writeByte (joinBytes b3 b2) s.l).writeByte (joinBytes b3 b2 + 1) s.h) :=
      ((Keeps.refl s).writeByte _ _).writeByte _ _
    have hregs : SameRegs [] s ((s.writeByte (joinBytes b3 b2) s.l).writeByte (joinBytes b3 b2 + 1) s.h) :=
      (sameRegs_writeByte _ _ _).of_reg (writeByte_reg s _ _)
    refine ⟨_, rfl, (stored_writeByte_writeByte s _ _ _ _).congr rfl rfl, hregs.withPc _, ?flags, ?sp, ?pc,
      (hk.withPc _).sameRest ?draws, withWord_joinBytes b2 b3 0x22, rfl, rfl⟩
    all_goals simp

/-- Settles O10: SPHL writes SP, PCHL writes pc, with HL as it stands. -/
theorem movesFromHL : Obligations.MovesFromHL := by
  unfold Obligations.MovesFromHL
  refine ⟨fun s => ?sphl, fun s => ?pchl⟩
  case sphl =>
    have hk : Keeps s { s with sp := s.hl } := (Keeps.refl s).regs _ _ _ _ _ _ _ _ _ _ _
    exact ⟨_, rfl, rfl, (sameRegs_withSp s s.hl).withPc _, rfl, rfl, nothingStored_of rfl rfl,
      (hk.withPc _).sameRest rfl, rfl, rfl, rfl⟩
  case pchl =>
    exact ⟨_, rfl, rfl, fun q _ => reg_withPc s q s.hl, rfl, rfl, nothingStored_of rfl rfl,
      ((Keeps.refl s).withPc s.hl).sameRest rfl, rfl, rfl, rfl⟩

end Sys2Proof.Machine
end

section
/-! The arithmetic and logical instructions (41_arithmetic.md, 42_logical.md sections 1, 2, 4): the eight operations of
the field ALU, once each; then their three operand forms, once for all eight. -/

namespace Sys2Proof.Machine

section Difference

variable (f : Flags) (a v : Byte) (c : Bool)

theorem sub8_r_toNat : (sub8 a v c).r.toNat = (256 + a.toNat - v.toNat - c.toNat) % 256 := by
  have ha := a.isLt
  have hv := v.isLt
  have hc := c.toNat_le
  simp only [sub8, BitVec.toNat_ofInt]
  omega

/-- The carry out of bit 3 of a + ~v + (1 - c) says that bit 4 lends nothing (D4). -/
theorem acSub_eq_decide : acSub a v c = decide (v.toNat % 16 + c.toNat ≤ a.toNat % 16) := by
  have hv := v.isLt
  have hc := c.toNat_le
  simp only [acSub, toNat_complement, decide_eq_decide]
  omega

/-- `sub8` (R25) with all five flags is the subtraction of the statements. -/
theorem differenceOf_sub8 : DifferenceOf (sub8 a v c).r (f.ofSum (sub8 a v c)) a v c := by
  refine ⟨sub8_r_toNat a v c, ?borrow, acSub_eq_decide a v c, resultFlags_ofSum f _⟩
  simp only [Flags.ofSum, sub8, decide_eq_decide]
  omega

theorem add8_one_r : (add8 a 1 false).r = a + 1 := by
  apply BitVec.eq_of_toNat_eq
  rw [add8_r_toNat, BitVec.toNat_add]
  rfl

theorem sub8_one_r_toNat : (sub8 a 1 false).r.toNat = (a.toNat + 255) % 256 := by
  have h1 : (1 : Byte).toNat = 1 := rfl
  rw [sub8_r_toNat, h1, Bool.toNat_false]
  omega

theorem sub8_one_r : (sub8 a 1 false).r = a - 1 := by
  apply BitVec.eq_of_toNat_eq
  have h1 : (1 : Byte).toNat = 1 := rfl
  rw [sub8_one_r_toNat, BitVec.toNat_sub, h1]
  omega

/-- Subtracting 1 needs a borrow from bit 4 exactly from a low nibble 0. -/
theorem sub8_one_ac : (sub8 a 1 false).ac = decide (a.toNat % 16 ≠ 0) := by
  have h1 : (1 : Byte).toNat = 1 := rfl
  rw [show (sub8 a 1 false).ac = acSub a 1 false from rfl, acSub_eq_decide, decide_eq_decide, h1, Bool.toNat_false]
  omega

end Difference

/-- A and the flags after an operation of the field ALU on A and a byte (30_encoding.md R67). -/
def aluA (op : AluOp) (v : Byte) (s : State) : State :=
  match op with
  | .add => addA v false s
  | .adc => addA v s.flags.cy s
  | .sub => subA v false s
  | .sbb => subA v s.flags.cy s
  | .ana => andA v s
  | .xra => xorA v s
  | .ora => orA v s
  | .cmp => cmpA v s

section Alu

variable (op : AluOp) (v d8 : Byte) (r : Reg) (s : State)

/-- Each operation writes A and the flags only. -/
theorem aluA_eq : ∃ w f, aluA op v s = { s.setReg .a w with flags := f } := by cases op <;> exact ⟨_, _, rfl⟩

theorem logicOf_ofLogic (f : Flags) (ac : Bool) : LogicOf v (f.ofLogic v ac) ac := ⟨rfl, rfl, resultFlags_szp f v⟩

/-- Each operation computes what the statements say. -/
theorem aluGives_aluA : AluGives op s (aluA op v s) v := by
  cases op
  case add | adc => exact sumOf_add8 s.flags s.a v _
  case sub | sbb => exact differenceOf_sub8 s.flags s.a v _
  case ana | xra | ora => exact ⟨rfl, logicOf_ofLogic _ s.flags _⟩
  case cmp => exact ⟨rfl, _, differenceOf_sub8 s.flags s.a v false⟩

theorem exec_aluOf : exec (.aluOf op r) s = done 1 (aluA op (s.reg r) s) := by cases op <;> cases r <;> rfl

theorem exec_aluIOf : exec (.aluIOf op d8) s = done 2 (aluA op d8 s) := by cases op <;> rfl

theorem exec_aluMOf : exec (.aluMOf op) s = viaM (aluA op) s := by cases op <;> rfl

theorem listed_aluIOf : Listed (.aluIOf op d8) [0b11#2 ++ op.code ++ 0b110#3, d8] 7 7 := by
  cases op <;> exact ⟨rfl, rfl, rfl⟩

theorem listed_aluMOf : Listed (.aluMOf op) [0b10#2 ++ op.code ++ 0b110#3] 7 7 := by
  cases op <;> exact ⟨rfl, rfl, rfl⟩

end Alu

section AluForms

variable {s t u : State} {op : AluOp} {v : Byte}

/-- What an operation computes is read off A and the flags, before it and after it. -/
theorem AluGives.congr {s' t' : State} (h : AluGives op s t v) (ha : s'.a = s.a) (hf : s'.flags = s.flags)
    (ha' : t'.a = t.a) (hf' : t'.flags = t.flags) : AluGives op s' t' v := by
  cases op <;> simpa only [AluGives, ha, hf, ha', hf'] using h

/-- An instruction that does an operation of the field ALU on A and a byte it knows, and ends. -/
theorem exec_of_aluA {i : Instr} {n : Word} {bytes : List Byte} {k : Nat} (hx : exec i s = done n (aluA op v s))
    (hl : Listed i bytes k k) :
    ∃ t, exec i s = .next t ∧ AluGives op s t v ∧ SameRegs [.a] s t ∧ t.sp = s.sp ∧ t.pc = s.pc + n ∧
      NothingStored s t ∧ SameRest s t ∧ Listed i bytes k k := by
  obtain ⟨w, f, hw⟩ := aluA_eq op v s
  have hg := aluGives_aluA op v s
  rw [hw] at hx hg
  obtain ⟨t, ht, ha, hf, hframe⟩ := exec_of_setReg_flags hx hl
  exact ⟨t, ht, hg.congr rfl rfl ha hf, hframe⟩

/-- An instruction that does an operation of the field ALU on A and the byte read at HL. -/
theorem exec_aluMOf_gives (op : AluOp) (s : State) :
    ∃ t, exec (.aluMOf op) s = .next t ∧ AluGives op s t (s.readByte s.hl).1 ∧ t.draws = (s.readByte s.hl).2.draws ∧
      SameRegs [.a] s t ∧ t.sp = s.sp ∧ t.pc = s.pc + 1 ∧ NothingStored s t ∧ SameControl s t ∧ SameEnv s t ∧
      Listed (.aluMOf op) [0b10#2 ++ op.code ++ 0b110#3] 7 7 := by
  obtain ⟨m, d, hread⟩ := readByte_pair s s.hl
  obtain ⟨w, f, hw⟩ := aluA_eq op m { s with draws := d }
  have hx : exec (.aluMOf op) s = _ := (exec_aluMOf op s).trans (viaM_of hread)
  have hg := aluGives_aluA op m { s with draws := d }
  rw [hw] at hx hg
  have hk : Keeps s { s with draws := d, a := w, flags := f, pc := s.pc + 1 } :=
    (Keeps.refl s).regs _ _ _ _ _ _ _ _ _ _ _
  rw [hread]
  exact ⟨_, hx, hg.congr rfl rfl rfl rfl, rfl, sameRegs_withA s w f _ d, rfl, rfl, nothingStored_of rfl rfl,
    hk.sameControl, hk.sameEnv,
    listed_aluMOf op⟩

end AluForms

/-- Settles O12: the two operations in their immediate and memory forms. -/
theorem addOtherForms : Obligations.AddOtherForms := by
  unfold Obligations.AddOtherForms
  exact fun op _ => ⟨fun d8 s => exec_of_aluA (exec_aluIOf op d8 s) (listed_aluIOf op d8), exec_aluMOf_gives op⟩

/-- Settles O13: the two operations in their three forms. -/
theorem subtractForms : Obligations.SubtractForms := by
  unfold Obligations.SubtractForms
  exact fun op _ => ⟨fun r s => exec_of_aluA (exec_aluOf op r s) (listed_aluOf r op),
    fun d8 s => exec_of_aluA (exec_aluIOf op d8 s) (listed_aluIOf op d8), exec_aluMOf_gives op⟩

/-- Settles O20: the three operations in their three forms. -/
theorem logicalForms : Obligations.LogicalForms := by
  unfold Obligations.LogicalForms
  exact fun op _ => ⟨fun r s => exec_of_aluA (exec_aluOf op r s) (listed_aluOf r op),
    fun d8 s => exec_of_aluA (exec_aluIOf op d8 s) (listed_aluIOf op d8), exec_aluMOf_gives op⟩

section Compare

variable {s t : State} {v : Byte}

/-- After a comparison Z says that the two are equal and CY that A is below. -/
theorem compare_flags (h : AluGives .cmp s t v) :
    t.flags.z = decide (s.a = v) ∧ t.flags.cy = decide (s.a.toNat < v.toNat) := by
  obtain ⟨-, r, hr, hcy, -, hz, -, -⟩ := h
  have ha := s.a.isLt
  have hv := v.isLt
  simp only [Bool.toNat_false] at hr hcy
  refine ⟨?zero, hcy⟩
  rw [hz, decide_eq_decide, hr, BitVec.toNat_eq]
  omega

/-- A comparison changes no register: it writes A with its own value. -/
theorem compare_sameRegs (h : AluGives .cmp s t v) (hr : SameRegs [.a] s t) : SameRegs [] s t := by
  intro q _
  by_cases hq : q = .a
  · exact hq ▸ h.1
  · exact hr q (by simpa using hq)

end Compare

/-- Settles O21: the operation of comparison in its three forms. -/
theorem compareForms : Obligations.CompareForms := by
  unfold Obligations.CompareForms
  refine ⟨fun r s => ?register, fun d8 s => ?immediate, fun s => ?memory⟩
  case register =>
    obtain ⟨t, ht, hg, hr, hframe⟩ := exec_of_aluA (exec_aluOf .cmp r s) (listed_aluOf r .cmp)
    exact ⟨t, ht, hg, (compare_flags hg).1, (compare_flags hg).2, compare_sameRegs hg hr, hframe⟩
  case immediate =>
    obtain ⟨t, ht, hg, hr, hframe⟩ := exec_of_aluA (exec_aluIOf .cmp d8 s) (listed_aluIOf .cmp d8)
    exact ⟨t, ht, hg, (compare_flags hg).1, (compare_flags hg).2, compare_sameRegs hg hr, hframe⟩
  case memory =>
    obtain ⟨t, ht, hg, hd, hr, hframe⟩ := exec_aluMOf_gives .cmp s
    exact ⟨t, ht, hg, (compare_flags hg).1, (compare_flags hg).2, hd, compare_sameRegs hg hr, hframe⟩

theorem exec_dcrOf (r : Reg) (s : State) : exec (.dcrOf r) s = done 1 (decReg r s) := by cases r <;> rfl

theorem listed_dcrOf (r : Reg) : Listed (.dcrOf r) [0b00#2 ++ r.code ++ 0b101#3] 5 5 := by
  cases r <;> exact ⟨rfl, rfl, rfl⟩

/-- Settles O17: the register gets the difference with 1, and of the flags of that difference CY alone is left out. -/
theorem decrementRegister : Obligations.DecrementRegister := by
  unfold Obligations.DecrementRegister
  intro r s
  obtain ⟨t, ht, hreg, hf, hframe⟩ := exec_of_setReg_flags (exec_dcrOf r s) (listed_dcrOf r)
  refine ⟨t, ht, ?value, ?cy, ?ac, ?result, hframe⟩
  case value => rw [hreg]; exact sub8_one_r_toNat (s.reg r)
  case cy => rw [hf]; rfl
  case ac => rw [hf]; exact sub8_one_ac (s.reg r)
  case result => rw [hreg, hf]; exact resultFlags_ofStep s.flags _

/-- An instruction that steps the byte at HL. -/
theorem exec_of_stepM {i : Instr} {s : State} {f : Byte → Sum8} {bytes : List Byte} {k : Nat}
    (hx : exec i s = done 1 (stepM f s)) (hl : Listed i bytes k k) :
    ∃ t, exec i s = .next t ∧ Stored s t [(s.hl, (f (s.readByte s.hl).1).r)] ∧
      t.flags = s.flags.ofStep (f (s.readByte s.hl).1) ∧ t.draws = (s.readByte s.hl).2.draws ∧ SameRegs [] s t ∧
      t.sp = s.sp ∧ t.pc = s.pc + 1 ∧ SameControl s t ∧ SameEnv s t ∧ Listed i bytes k k := by
  obtain ⟨m, d, hread⟩ := readByte_pair s s.hl
  have hstep : stepM f s =
      { State.writeByte { s with draws := d } s.hl (f m).r with flags := s.flags.ofStep (f m) } := by
    simp only [stepM, State.readM, State.writeM, hread]
    rfl
  rw [hstep] at hx
  rw [hread]
  have hk : Keeps s (State.writeByte { s with draws := d } s.hl (f m).r) :=
    ((Keeps.refl s).regs s.a s.b s.c s.d s.e s.h s.l s.sp s.pc s.flags d).writeByte s.hl _
  have hk' := hk.regs
  have hstored : Stored s (State.writeByte { s with draws := d } s.hl (f m).r) [(s.hl, (f m).r)] :=
    (stored_writeByte { s with draws := d } s.hl (f m).r).of_eq rfl rfl rfl
  have hregs : SameRegs [] s
      { State.writeByte { s with draws := d } s.hl (f m).r with flags := s.flags.ofStep (f m) } :=
    (sameRegs_withFlags _ _).of_reg fun q => (writeByte_reg _ _ _ q).trans (by cases q <;> rfl)
  exact ⟨_, hx, hstored.congr rfl rfl, rfl, writeByte_draws _ _ _, hregs.withPc _, writeByte_sp _ _ _,
    congrArg (· + 1) (writeByte_pc _ _ _), (hk' _ _ _ _ _ _ _ _ _ _ _).sameControl,
    (hk' _ _ _ _ _ _ _ _ _ _ _).sameEnv, hl⟩

/-- Settles O18: both are the step of the byte at HL, by the sum and by the difference with 1. -/
theorem stepMemory : Obligations.StepMemory := by
  unfold Obligations.StepMemory
  refine ⟨fun s => ?inrM, fun s => ?dcrM⟩
  case inrM =>
    obtain ⟨t, ht, hstored, hf, hframe⟩ :=
      exec_of_stepM (bytes := [0x34]) (k := 10) (exec_inrM s) ⟨rfl, rfl, rfl⟩
    refine ⟨t, _, ht, add8_one_r _, hstored, ?_, ?_, ?_, hframe⟩
    all_goals rw [hf]
    · rfl
    · exact add8_one_ac _
    · exact resultFlags_ofStep s.flags _
  case dcrM =>
    obtain ⟨t, ht, hstored, hf, hframe⟩ :=
      exec_of_stepM (bytes := [0x35]) (k := 10) (exec_dcrM s) ⟨rfl, rfl, rfl⟩
    refine ⟨t, _, ht, sub8_one_r _, hstored, ?_, ?_, ?_, hframe⟩
    all_goals rw [hf]
    · rfl
    · exact sub8_one_ac _
    · exact resultFlags_ofStep s.flags _

theorem exec_dadOf (rp : Pair) (s : State) : exec (.dadOf rp) s = done 1 (addHL (s.pair rp) s) := by cases rp <;> rfl

theorem listed_dadOf (rp : Pair) : Listed (.dadOf rp) [0b00#2 ++ rp.code ++ 0b1001#4] 10 10 := by
  cases rp <;> exact ⟨rfl, rfl, rfl⟩

/-- Settles O15: the write of HL with the sum, and of CY with its carry. -/
theorem doubleAdd : Obligations.DoubleAdd := by
  unfold Obligations.DoubleAdd
  intro rp s
  have hk : Keeps s (addHL (s.pair rp) s) := ((Keeps.refl s).setPair .h _).regs _ _ _ _ _ _ _ _ _ _ _
  have hhl : (addHL (s.pair rp) s).hl = BitVec.ofNat 16 (s.hl.toNat + (s.pair rp).toNat) :=
    joinBytes_hiByte_loByte _
  have hregs : SameRegs [.h, .l] s (addHL (s.pair rp) s) := by
    intro q hq
    cases q
    case h | l => simp at hq
    all_goals rfl
  exact ⟨_, exec_dadOf rp s, (congrArg BitVec.toNat hhl).trans (BitVec.toNat_ofNat _ _), rfl, hregs.withPc _, rfl, rfl,
    nothingStored_of rfl rfl, (hk.withPc _).sameRest rfl, listed_dadOf rp⟩

section DecimalAdjustment

variable (a : Byte) (f : Flags)

/-- Whether DAA adds 6: the low digit is no decimal digit, or AC is set. -/
def lowCorrected : Bool := decide (10 ≤ a.toNat % 16) || f.ac

/-- Whether DAA adds 0x60: the high digit is no decimal digit, or CY is set, or the low correction carries into a 9. -/
def highCorrected : Bool := decide (10 ≤ a.toNat / 16) || f.cy || (decide (10 ≤ a.toNat % 16) && a.toNat / 16 == 9)

theorem lowCorrected_iff : lowCorrected a f = true ↔ 10 ≤ a.toNat % 16 ∨ f.ac = true := by
  simp [lowCorrected]

theorem highCorrected_iff : highCorrected a f = true ↔
    10 ≤ a.toNat / 16 ∨ f.cy = true ∨ (10 ≤ a.toNat % 16 ∧ a.toNat / 16 = 9) := by
  simp [highCorrected, or_assoc]

theorem decimalAdjust_fst_toNat : (decimalAdjust a f).1.toNat =
    (a.toNat + (if lowCorrected a f then 0x06 else 0) + (if highCorrected a f then 0x60 else 0)) % 256 :=
  BitVec.toNat_ofNat _ _

theorem decimalAdjust_cy : (decimalAdjust a f).2.cy = highCorrected a f := rfl

theorem decimalAdjust_ac : (decimalAdjust a f).2.ac = decide (10 ≤ a.toNat % 16) := rfl

theorem decimalAdjust_resultFlags : ResultFlags (decimalAdjust a f).2 (decimalAdjust a f).1 := resultFlags_szp f _

end DecimalAdjustment

end Sys2Proof.Machine

namespace Sys2Proof

open Machine

/-- Settles O14: DAA writes A and the flags with the adjusted value, whose two corrections are named. -/
theorem decimalAdjust : Obligations.DecimalAdjust := by
  unfold Obligations.DecimalAdjust
  intro s
  obtain ⟨t, ht, ha, hf, hframe⟩ := exec_of_setReg_flags (i := .daa) (s := s) (n := 1) (bytes := [0x27]) (k := 4)
    (r := .a) (v := (Machine.decimalAdjust s.a s.flags).1) (f := (Machine.decimalAdjust s.a s.flags).2) rfl ⟨rfl,
      rfl, rfl⟩
  have ha : t.a = (Machine.decimalAdjust s.a s.flags).1 := ha
  refine ⟨t, lowCorrected s.a s.flags, highCorrected s.a s.flags, ht, lowCorrected_iff _ _, highCorrected_iff _ _,
    ?value, ?cy, ?ac, ?result, hframe⟩
  case value => rw [ha, decimalAdjust_fst_toNat]
  case cy => rw [hf, decimalAdjust_cy]
  case ac => rw [hf, decimalAdjust_ac]
  case result => rw [ha, hf]; exact decimalAdjust_resultFlags s.a s.flags

end Sys2Proof
end

section
/-! The branches (43_branch.md): pc, and for calls, returns and restarts the stack, with everything else left alone. -/

namespace Sys2Proof.Machine

theorem holds_eq_true_iff (cc : Cond) (f : Flags) : f.holds cc = true ↔ CondTrue cc f := by
  cases cc <;> simp [Flags.holds, CondTrue]

section BranchRows

variable (cc : Cond) (addr : Word) (b2 b3 : Byte) (n : Fin 8) (s : State)

theorem exec_jumpOf : exec (.jumpOf cc addr) s = jumpIf (s.flags.holds cc) addr s := by cases cc <;> rfl

theorem exec_callOf : exec (.callOf cc addr) s = callIf (s.flags.holds cc) addr s := by cases cc <;> rfl

theorem exec_returnOf : exec (.returnOf cc) s = returnIf (s.flags.holds cc) s := by cases cc <;> rfl

theorem exec_rstOf : exec (.rstOf n) s = restart n s := by fin_cases n <;> rfl

theorem listed_jumpOf : Listed (.jumpOf cc (joinBytes b3 b2)) [0b11#2 ++ cc.code ++ 0b010#3, b2, b3] 7 10 := by
  cases cc <;> exact ⟨withWord_joinBytes b2 b3 _, rfl, rfl⟩

theorem listed_callOf : Listed (.callOf cc (joinBytes b3 b2)) [0b11#2 ++ cc.code ++ 0b100#3, b2, b3] 11 17 := by
  cases cc <;> exact ⟨withWord_joinBytes b2 b3 _, rfl, rfl⟩

theorem listed_returnOf : Listed (.returnOf cc) [0b11#2 ++ cc.code ++ 0b000#3] 5 11 := by
  cases cc <;> exact ⟨rfl, rfl, rfl⟩

theorem listed_rstOf : Listed (.rstOf n) [0b11#2 ++ BitVec.ofNat 3 n.val ++ 0b111#3] 11 11 := by
  fin_cases n <;> exact ⟨rfl, rfl, rfl⟩

end BranchRows

section Transfers

variable (s : State) (v p : Word)

/-- Nothing but pc differs. -/
theorem withPc_frame : SameRegs [] s { s with pc := p } ∧ State.flags { s with pc := p } = s.flags ∧
    State.sp { s with pc := p } = s.sp ∧ NothingStored s { s with pc := p } ∧ SameRest s { s with pc := p } :=
  ⟨fun q _ => reg_withPc s q p, rfl, rfl, nothingStored_of rfl rfl, ((Keeps.refl s).withPc p).sameRest rfl⟩

/-- What a push beside a change of pc leaves: the two bytes stored, SP lowered by 2, and nothing else. -/
theorem push16_withPc_frame : State.sp { s.push16 v with pc := p } = s.sp - 2 ∧
    Stored s { s.push16 v with pc := p } [(s.sp - 1, hiByte v), (s.sp - 2, loByte v)] ∧
    SameRegs [] s { s.push16 v with pc := p } ∧ State.flags { s.push16 v with pc := p } = s.flags ∧
    SameRest s { s.push16 v with pc := p } :=
  ⟨rfl, (stored_push16 s v).congr rfl rfl, (sameRegs_push16 s v).withPc p, push16_flags s v,
    (((Keeps.refl s).push16 v).withPc p).sameRest (push16_draws s v)⟩

/-- What a pop beside a change of pc leaves: SP raised by 2, the draws of the two reads, and nothing else. -/
theorem pop16_withPc_frame : SameRegs [] s { s.pop16.2 with pc := p } ∧
    State.flags { s.pop16.2 with pc := p } = s.flags ∧ NothingStored s { s.pop16.2 with pc := p } ∧
    SameControl s { s.pop16.2 with pc := p } ∧ SameEnv s { s.pop16.2 with pc := p } :=
  have hk : Keeps s { s.pop16.2 with pc := p } := (Keeps.refl s).pop16.withPc p
  ⟨(sameRegs_pop16 s).withPc p, pop16_flags s, nothingStored_of (pop16_mem s) (pop16_outputs s), hk.sameControl,
    hk.sameEnv⟩

end Transfers

/-- Settles O24: pc is the address or the next instruction, by the condition. -/
theorem jumps : Obligations.Jumps := by
  unfold Obligations.Jumps
  refine ⟨fun b2 b3 s => ?jmp, fun cc b2 b3 s => ?conditional⟩
  case jmp =>
    obtain ⟨hr, hf, hsp, hn, hrest⟩ := withPc_frame s (joinBytes b3 b2)
    exact ⟨_, rfl, rfl, hr, hf, hsp, hn, hrest, withWord_joinBytes b2 b3 0xC3, rfl, rfl⟩
  case conditional =>
    rw [exec_jumpOf, ← holds_eq_true_iff]
    cases s.flags.holds cc with
    | true =>
      obtain ⟨hr, hf, hsp, hn, hrest⟩ := withPc_frame s (joinBytes b3 b2)
      exact ⟨_, rfl, fun _ => rfl, fun h => absurd rfl h, hr, hf, hsp, hn, hrest, listed_jumpOf cc b2 b3⟩
    | false =>
      obtain ⟨hr, hf, hsp, hn, hrest⟩ := withPc_frame s (s.pc + 3)
      exact ⟨_, rfl, nofun, fun _ => rfl, hr, hf, hsp, hn, hrest, listed_jumpOf cc b2 b3⟩

/-- Settles O25: a taken call is a push beside a change of pc, one not taken a change of pc alone. -/
theorem calls : Obligations.Calls := by
  unfold Obligations.Calls
  refine ⟨fun b2 b3 s => ?call, fun cc b2 b3 s => ?conditional⟩
  case call =>
    obtain ⟨hsp, hstored, hr, hf, hrest⟩ := push16_withPc_frame s (s.pc + 3) (joinBytes b3 b2)
    exact ⟨_, rfl, rfl, hsp, hstored, hr, hf, hrest, withWord_joinBytes b2 b3 0xCD, rfl, rfl⟩
  case conditional =>
    rw [exec_callOf, ← holds_eq_true_iff]
    cases s.flags.holds cc with
    | true =>
      obtain ⟨hsp, hstored, hr, hf, hrest⟩ := push16_withPc_frame s (s.pc + 3) (joinBytes b3 b2)
      exact ⟨_, rfl, fun _ => ⟨rfl, hsp, hstored⟩, fun h => absurd rfl h, hr, hf, hrest, listed_callOf cc b2 b3⟩
    | false =>
      obtain ⟨hr, hf, hsp, hn, hrest⟩ := withPc_frame s (s.pc + 3)
      exact ⟨_, rfl, nofun, fun _ => ⟨rfl, hsp, hn⟩, hr, hf, hrest, listed_callOf cc b2 b3⟩

/-- Settles O26: a taken return is a pop into pc, one not taken a change of pc alone. -/
theorem returns : Obligations.Returns := by
  unfold Obligations.Returns
  refine ⟨fun s => ?ret, fun cc s => ?conditional⟩
  case ret =>
    obtain ⟨hr, hf, hn, hc, he⟩ := pop16_withPc_frame s s.pop16.1
    exact ⟨_, rfl, pop16_fst, pop16_sp s, pop16_draws, hr, hf, hn, hc, he, rfl, rfl, rfl⟩
  case conditional =>
    rw [exec_returnOf, ← holds_eq_true_iff]
    cases s.flags.holds cc with
    | true =>
      obtain ⟨hr, hf, hn, hc, he⟩ := pop16_withPc_frame s s.pop16.1
      exact ⟨_, rfl, fun _ => ⟨pop16_fst, pop16_sp s, pop16_draws⟩, fun h => absurd rfl h, hr, hf, hn, hc, he,
        listed_returnOf cc⟩
    | false =>
      obtain ⟨hr, hf, hsp, hn, hd, hc, he⟩ := withPc_frame s (s.pc + 1)
      exact ⟨_, rfl, nofun, fun _ => ⟨rfl, hsp, hd⟩, hr, hf, hn, hc, he, listed_returnOf cc⟩

theorem restartTarget_toNat (n : Fin 8) : (restartTarget n).toNat = 8 * n.val := by
  have hn := n.isLt
  rw [restartTarget, BitVec.toNat_ofNat, Nat.mod_eq_of_lt (by omega)]

end Sys2Proof.Machine

namespace Sys2Proof

open Machine

/-- Settles O27: a restart is a push beside a change of pc. -/
theorem restart : Obligations.Restart := by
  unfold Obligations.Restart
  intro n s
  obtain ⟨hsp, hstored, hr, hf, hrest⟩ := push16_withPc_frame s (s.pc + 1) (restartTarget n)
  exact ⟨_, exec_rstOf n s, restartTarget_toNat n, hsp, hstored, hr, hf, hrest, listed_rstOf n⟩

end Sys2Proof
end

section
/-! Machine control, input and output and the stack instructions (44_machine_stack_io.md), and the rotates
(42_logical.md section 5). -/

namespace Sys2Proof.Machine

section RotateBits

variable (v : Byte) (b : Bool) {m : Nat}

theorem rotateLeft_getLsbD (m : Nat) :
    (rotateLeft v b).getLsbD m = if m < 1 then (BitVec.ofBool b).getLsbD m else (v.extractLsb' 0 7).getLsbD (m - 1) :=
  BitVec.getLsbD_append

theorem rotateRight_getLsbD (m : Nat) :
    (rotateRight v b).getLsbD m = if m < 7 then (v.extractLsb' 1 7).getLsbD m else (BitVec.ofBool b).getLsbD (m - 7) :=
  BitVec.getLsbD_append

theorem rotateLeft_getLsbD_zero : (rotateLeft v b).getLsbD 0 = b := by
  rw [rotateLeft_getLsbD, if_pos Nat.zero_lt_one, BitVec.getLsbD_ofBool]
  simp

theorem rotateLeft_getLsbD_succ (hm : m < 7) : (rotateLeft v b).getLsbD (m + 1) = v.getLsbD m := by
  rw [rotateLeft_getLsbD, if_neg (by omega), Nat.add_sub_cancel, BitVec.getLsbD_extractLsb']
  simp [hm]

theorem rotateRight_getLsbD_seven : (rotateRight v b).getLsbD 7 = b := by
  rw [rotateRight_getLsbD, if_neg (by omega), BitVec.getLsbD_ofBool]
  simp

theorem rotateRight_getLsbD_of_lt (hm : m < 7) : (rotateRight v b).getLsbD m = v.getLsbD (m + 1) := by
  rw [rotateRight_getLsbD, if_pos hm, BitVec.getLsbD_extractLsb', Nat.add_comm]
  simp [hm]

end RotateBits

section RotateRows

variable {i : Instr} {s : State} {bytes : List Byte} {k : Nat} {b : Bool}

/-- A rotate to the left with `b` shifted in. -/
theorem exec_of_rotateLeft (hx : exec i s = rotateA (rotateLeft s.a b) s.a[7] s) (hl : Listed i bytes k k) :
    ∃ t, exec i s = .next t ∧ (∀ m < 7, t.a.getLsbD (m + 1) = s.a.getLsbD m) ∧ t.a.getLsbD 0 = b ∧
      t.flags = { s.flags with cy := s.a.getLsbD 7 } ∧ SameRegs [.a] s t ∧ t.sp = s.sp ∧ t.pc = s.pc + 1 ∧
      NothingStored s t ∧ SameRest s t ∧ Listed i bytes k k := by
  obtain ⟨t, ht, ha, hframe⟩ := exec_of_setReg_flags (r := .a) (v := rotateLeft s.a b) hx hl
  have ha : t.a = rotateLeft s.a b := ha
  exact ⟨t, ht, fun m hm => ha ▸ rotateLeft_getLsbD_succ s.a b hm, ha ▸ rotateLeft_getLsbD_zero s.a b, hframe⟩

/-- A rotate to the right with `b` shifted in. -/
theorem exec_of_rotateRight (hx : exec i s = rotateA (rotateRight s.a b) s.a[0] s) (hl : Listed i bytes k k) :
    ∃ t, exec i s = .next t ∧ (∀ m < 7, t.a.getLsbD m = s.a.getLsbD (m + 1)) ∧ t.a.getLsbD 7 = b ∧
      t.flags = { s.flags with cy := s.a.getLsbD 0 } ∧ SameRegs [.a] s t ∧ t.sp = s.sp ∧ t.pc = s.pc + 1 ∧
      NothingStored s t ∧ SameRest s t ∧ Listed i bytes k k := by
  obtain ⟨t, ht, ha, hframe⟩ := exec_of_setReg_flags (r := .a) (v := rotateRight s.a b) hx hl
  have ha : t.a = rotateRight s.a b := ha
  exact ⟨t, ht, fun m hm => ha ▸ rotateRight_getLsbD_of_lt s.a b hm, ha ▸ rotateRight_getLsbD_seven s.a b, hframe⟩

end RotateRows

/-- Settles O23: each is a rotate of A by one place with the bit shifted in, CY the bit shifted out. -/
theorem rotates : Obligations.Rotates := by
  unfold Obligations.Rotates
  refine ⟨fun s => ?rlc, fun s => ?rrc, fun s => ?ral, fun s => ?rar⟩
  case rlc | ral => exact exec_of_rotateLeft rfl ⟨rfl, rfl, rfl⟩
  case rrc | rar => exact exec_of_rotateRight rfl ⟨rfl, rfl, rfl⟩

/-- Settles O28: EI and DI write IE and, under gk8085, ei_delay. -/
theorem interruptSwitch : Obligations.InterruptSwitch := by
  unfold Obligations.InterruptSwitch
  have hkeep {b c : Bool} {q : IrqModel} (h : q = .none) : (if q = .gk8085 then b else c) = c := if_neg (h ▸ nofun)
  refine ⟨fun s => ?ei, fun s => ?di⟩
  case ei | di =>
    exact ⟨_, rfl, rfl, fun hq => if_pos hq, hkeep, fun q _ => by cases q <;> rfl, rfl, rfl, rfl,
      nothingStored_of rfl rfl,
      ⟨rfl, ⟨rfl, rfl, rfl, rfl, rfl, rfl, rfl, rfl⟩, rfl, rfl, rfl⟩, rfl, rfl, rfl⟩

/-- Settles O29: both next states are those of the definitions. -/
theorem nopAndHalt : Obligations.NopAndHalt := by
  unfold Obligations.NopAndHalt
  exact ⟨fun _ => ⟨rfl, rfl, rfl, rfl⟩, fun _ => ⟨rfl, rfl, rfl, rfl⟩⟩

/-- Settles O30: IN writes A with an answer drawn, OUT appends an event. -/
theorem inputOutput : Obligations.InputOutput := by
  unfold Obligations.InputOutput
  refine ⟨fun port s => ?inPort, fun port s => ?outPort⟩
  case inPort =>
    have hk : Keeps s { s with draws := s.draws + 1, a := Config.ioByte s.draws port, pc := s.pc + 2 } :=
      (Keeps.refl s).regs _ _ _ _ _ _ _ _ _ _ _
    exact ⟨_, rfl, rfl, rfl, sameRegs_withA s _ _ _ _, rfl, rfl, rfl, nothingStored_of rfl rfl, hk.sameControl,
      hk.sameEnv, rfl, rfl, rfl⟩
  case outPort =>
    have hk : Keeps s (s.ioWrite port s.a) := (Keeps.refl s).ioWrite port s.a
    exact ⟨_, rfl, rfl, fun _ => rfl, fun q _ => by cases q <;> rfl, rfl, rfl, rfl, (hk.withPc _).sameRest rfl, rfl,
      rfl,
      rfl⟩

section StackRows

variable (f : Flags) (v : Byte) (rp : StackPair) (s : State)

/-- The flag byte S:Z:0:AC:0:P:1:CY as a number (10_state.md R26). -/
theorem toByte_toNat :
    f.toByte.toNat = 128 * f.s.toNat + 64 * f.z.toNat + 16 * f.ac.toNat + 4 * f.p.toNat + 2 + f.cy.toNat := by
  obtain ⟨z, s, p, cy, ac⟩ := f
  revert z s p cy ac
  decide

theorem exec_pushOf : exec (.pushOf rp) s = done 1 (s.push16 (s.stackPair rp)) := by cases rp <;> rfl

theorem exec_popOf : exec (.popOf rp) s = popInto rp s := by cases rp <;> rfl

theorem listed_pushOf : Listed (.pushOf rp) [0b11#2 ++ rp.code ++ 0b0101#4] 10 10 := by
  cases rp <;> exact ⟨rfl, rfl, rfl⟩

theorem listed_popOf : Listed (.popOf rp) [0b11#2 ++ rp.code ++ 0b0001#4] 10 10 := by
  cases rp <;> exact ⟨rfl, rfl, rfl⟩

/-- Popping into a pair reaches its registers only. -/
theorem sameRegs_setStackPair (w : Word) : SameRegs rp.halves s (s.setStackPair rp w) := by
  intro q hq
  cases rp <;> cases q <;> simp [StackPair.halves] at hq <;> rfl

theorem setStackPair_flags_of_ne (w : Word) (h : rp ≠ .psw) : (s.setStackPair rp w).flags = s.flags := by
  cases rp
  case psw => exact absurd rfl h
  all_goals rfl

end StackRows

/-- Settles O31: the push of a pair; the two bytes are its halves. -/
theorem pushPair : Obligations.PushPair := by
  unfold Obligations.PushPair
  intro rp s
  obtain ⟨hsp, hstored, hr, hf, hrest⟩ := push16_withPc_frame s (s.stackPair rp) ((s.push16 (s.stackPair rp)).pc + 1)
  refine ⟨_, _, _, exec_pushOf rp s, ?pairB, ?pairD, ?pairH, ?psw, hstored, hsp, hr, hf,
    congrArg (· + 1) (push16_pc s _), hrest, listed_pushOf rp⟩
  case pairB | pairD | pairH =>
    rintro rfl
    exact ⟨hiByte_joinBytes _ _, loByte_joinBytes _ _⟩
  case psw =>
    rintro rfl
    exact ⟨hiByte_joinBytes _ _, (congrArg BitVec.toNat (loByte_joinBytes _ _)).trans (toByte_toNat s.flags)⟩

/-- Settles O32: the pop into a pair; the flags of PSW are the bits of its low byte. -/
theorem popPair : Obligations.PopPair := by
  unfold Obligations.PopPair
  intro rp s
  have hk : Keeps s (s.pop16.2.setStackPair rp s.pop16.1) := (Keeps.refl s).pop16.setStackPair rp _
  have hr : SameRegs rp.halves s (s.pop16.2.setStackPair rp s.pop16.1) :=
    (sameRegs_setStackPair rp _ _).of_reg (pop16_reg s)
  have hlo : loByte s.pop16.1 = (s.readByte s.sp).1 := loByte_joinBytes _ _
  have hhi : hiByte s.pop16.1 = ((s.readByte s.sp).2.readByte (s.sp + 1)).1 := hiByte_joinBytes _ _
  refine ⟨_, _, _, exec_popOf rp s, hlo, hhi, setStackPair_draws _ rp _, ?pairB, ?pairD, ?pairH, ?psw,
    fun h => (setStackPair_flags_of_ne rp _ _ h).trans (pop16_flags s), hr.withPc _, setStackPair_sp _ rp _, ?pc,
    nothingStored_of ?mem ?outputs, (hk.withPc _).sameControl, (hk.withPc _).sameEnv, listed_popOf rp⟩
  case pairB | pairD | pairH =>
    rintro rfl
    exact ⟨rfl, rfl⟩
  case psw =>
    rintro rfl
    exact ⟨rfl, rfl, rfl, rfl, rfl, rfl⟩
  all_goals simp

/-- Settles O33: the two bytes read go to HL, the old HL to the addresses they came from. -/
theorem exchangeStackTop : Obligations.ExchangeStackTop := by
  unfold Obligations.ExchangeStackTop
  intro s
  let r := s.readWord s.sp
  let u := (r.2.writeByte (s.sp + 1) s.h).writeByte s.sp s.l
  have hk : Keeps s (u.setPair .h r.1) :=
    ((((Keeps.refl s).readWord s.sp).writeByte _ _).writeByte _ _).setPair .h r.1
  have hstored : Stored s u [(s.sp + 1, s.h), (s.sp, s.l)] :=
    (stored_writeByte_writeByte r.2 (s.sp + 1) s.sp s.h s.l).of_eq (readWord_mem s _).symm (readWord_outputs s _).symm
      (readWord_platform s _).symm
  have hr : SameRegs [.h, .l] s (u.setPair .h r.1) := (sameRegs_setPair u .h r.1).of_reg fun q => by simp [u, r]
  refine ⟨_, rfl, loByte_joinBytes _ _, hiByte_joinBytes _ _, ?draws, hstored.congr rfl rfl, hr.withPc _, ?flags,
    ?sp, ?pc,
    (hk.withPc _).sameControl, (hk.withPc _).sameEnv, rfl, rfl, rfl⟩
  case draws => exact (writeByte_draws _ _ _).trans (writeByte_draws _ _ _)
  case sp => simp [setPair_sp_eq]
  case flags | pc => simp

/-- Eight bits put together are the bits of the byte, the first one bit 7. -/
theorem getLsbD_eight_bits : ∀ b7 b6 b5 b4 b3 b2 b1 b0 : Bool,
    let v : Byte := BitVec.ofBool b7 ++ BitVec.ofBool b6 ++ BitVec.ofBool b5 ++ BitVec.ofBool b4 ++ BitVec.ofBool b3 ++
      BitVec.ofBool b2 ++ BitVec.ofBool b1 ++ BitVec.ofBool b0
    v.getLsbD 7 = b7 ∧ v.getLsbD 6 = b6 ∧ v.getLsbD 5 = b5 ∧ v.getLsbD 4 = b4 ∧ v.getLsbD 3 = b3 ∧ v.getLsbD 2 = b2 ∧
      v.getLsbD 1 = b1 ∧ v.getLsbD 0 = b0 := by
  decide

theorem pending_of_none {s : State} (h : s.platform.irq = .none) : s.pending65 = false ∧ s.pending55 = false := by
  simp [State.pending65, State.pending55, h]

theorem pending_of_gk8085 {s : State} (h : s.platform.irq = .gk8085) :
    s.pending65 = s.pinsNow.rimRst65 ∧ s.pending55 = s.pinsNow.rimRst55 := by
  simp [State.pending65, State.pending55, h]

/-- Settles O34: the bits of the byte RIM loads, its two levels by the interrupt model. -/
theorem readMasks : Obligations.ReadMasks := by
  unfold Obligations.ReadMasks
  intro s
  let v := rimByte s (Config.sidBit s.draws)
  have hk : Keeps s { s with draws := s.draws + 1, a := v, pc := s.pc + 1 } := (Keeps.refl s).regs _ _ _ _ _ _ _ _ _ _ _
  obtain ⟨h7, h6, h5, h4, h3, h2, h1, h0⟩ :=
    getLsbD_eight_bits (Config.sidBit s.draws) s.r75 s.pending65 s.pending55 s.ie s.m75 s.m65 s.m55
  exact ⟨_, rfl, h7, h6, fun hq => ⟨h5.trans (pending_of_none hq).1, h4.trans (pending_of_none hq).2⟩,
    fun hq => ⟨h5.trans (pending_of_gk8085 hq).1, h4.trans (pending_of_gk8085 hq).2⟩, h3, h2, h1, h0, rfl,
    sameRegs_withA s v _ _ _, rfl, rfl, rfl, nothingStored_of rfl rfl, hk.sameControl, hk.sameEnv, rfl, rfl, rfl⟩

end Sys2Proof.Machine

namespace Sys2Proof

open Machine

/-- Settles O35: SIM writes the masks, R75 and SOD under the gates of A. -/
theorem setMasks : Obligations.SetMasks := by
  unfold Obligations.SetMasks
  intro s
  have hoff {b c : Bool} (h : s.a.getLsbD 3 = false) : (if s.a[3] then b else c) = c := if_neg (Bool.eq_false_iff.mp h)
  exact ⟨_, rfl, fun h => ⟨if_pos h, if_pos h, if_pos h⟩, fun h => ⟨hoff h, hoff h, hoff h⟩, rfl, rfl, rfl, rfl, rfl,
    rfl, ⟨rfl, rfl, rfl⟩,
    fun q _ => by cases q <;> rfl, rfl, rfl, rfl, nothingStored_of rfl rfl, rfl, rfl, rfl⟩

end Sys2Proof
end

section
/-! Several instructions one after the other: decimal addition (41_arithmetic.md section 2), a stack in RAM
(43_branch.md section 6, 44_machine_stack_io.md section 4), and exchanges repeated until they restore what they
moved. -/

namespace Sys2Proof.Machine

theorem execAll_pair {i j : Instr} {s t u : State} (hi : exec i s = .next t) (hj : exec j t = .next u) :
    execAll [i, j] s = .next u := by
  simp only [execAll, andThen, hi, hj]

section Decimal

theorem bcd_toNat {n : Nat} (hn : n < 100) : (bcd n).toNat = n / 10 * 16 + n % 10 := by
  rw [bcd, BitVec.toNat_ofNat]
  omega

/-- Two high digits with sum `p`, two low digits and a carry with sum `q`, corrected as DAA does: a digit sum above 9 is
seen by its value or by the carry out of its nibble, and the result is the decimal byte of the sum. -/
theorem corrected_digit_sums {p q t r : Nat} {low high : Bool} (hp : p ≤ 18) (hq : q ≤ 19) (ht : t = 16 * p + q)
    (hlow : low = true ↔ 10 ≤ t % 256 % 16 ∨ 15 < q)
    (hhigh : high = true ↔ 10 ≤ t % 256 / 16 ∨ 255 < t ∨ (10 ≤ t % 256 % 16 ∧ t % 256 / 16 = 9))
    (hr : r = (t % 256 + (if low then 0x06 else 0) + (if high then 0x60 else 0)) % 256) :
    r = (10 * p + q) % 100 / 10 * 16 + (10 * p + q) % 100 % 10 ∧ (high = true ↔ 99 < 10 * p + q) := by
  have hlow' : low = true ↔ 10 ≤ q := hlow.trans (by omega)
  have hhigh' : high = true ↔ 99 < 10 * p + q := hhigh.trans (by omega)
  have hmod : (10 * p + q) % 100 = 10 * p + q - if high then 100 else 0 := by
    cases high <;> simp only [Bool.false_eq_true, if_true, if_false, true_iff, false_iff] at hhigh' ⊢ <;> omega
  refine ⟨?_, hhigh'⟩
  rw [hr, hmod]
  clear hr hmod hlow hhigh
  cases low <;> cases high <;>
    simp only [Bool.false_eq_true, if_true, if_false, true_iff, false_iff] at hlow' hhigh' ⊢ <;> omega

end Decimal

/-- Settles O58: ADC gives the binary sum and its carries, DAA the two corrections it needs. -/
theorem decimalAddition : Obligations.DecimalAddition := by
  unfold Obligations.DecimalAddition
  intro r n m s hn hm ha hr
  obtain ⟨t, ht, ⟨hsum, hcy, hac, -⟩, -⟩ := addRegister.2 r s
  obtain ⟨u, low, high, hu, hlow, hhigh, hvalue, hcy', -⟩ := Sys2Proof.decimalAdjust t
  have hc := s.flags.cy.toNat_le
  generalize s.flags.cy.toNat = c at *
  have hbinary : n / 10 * 16 + n % 10 + (m / 10 * 16 + m % 10) + c =
      16 * (n / 10 + m / 10) + (n % 10 + m % 10 + c) := by
    omega
  have hnibble : (n / 10 * 16 + n % 10) % 16 + (m / 10 * 16 + m % 10) % 16 + c = n % 10 + m % 10 + c := by omega
  have hdecimal : n + m + c = 10 * (n / 10 + m / 10) + (n % 10 + m % 10 + c) := by omega
  rw [ha, hr, bcd_toNat hn, bcd_toNat hm, hbinary] at hsum hcy
  rw [ha, hr, bcd_toNat hn, bcd_toNat hm, hnibble] at hac
  rw [hsum, hac, decide_eq_true_iff] at hlow
  rw [hsum, hcy, decide_eq_true_iff] at hhigh
  rw [hsum] at hvalue
  obtain ⟨hresult, hcarry⟩ := corrected_digit_sums (by omega) (by omega) rfl hlow hhigh hvalue
  rw [hdecimal]
  refine ⟨u, execAll_pair ht hu, BitVec.eq_of_toNat_eq ?value, ?carry⟩
  case value => rw [hresult, bcd_toNat (Nat.mod_lt _ (by omega))]
  case carry => rw [hcy', Bool.eq_iff_iff, decide_eq_true_iff, hcarry]

section StackInRam

variable {s u : State} {v : Word}

/-- A pop from RAM gives the two bytes memory holds and changes SP alone. -/
theorem pop16_ram (h0 : s.kindAt s.sp = .ram) (h1 : s.kindAt (s.sp + 1) = .ram) :
    s.pop16 = (joinBytes (s.peek (s.sp + 1)) (s.peek s.sp), { s with sp := s.sp + 2 }) := by
  simp only [State.pop16, State.readWord, readByte_ram h0, readByte_ram h1]

/-- Two bytes stored in RAM are both there. -/
theorem Stored.peek_pair {a b : Word} {x y : Byte} (h : Stored s u [(a, x), (b, y)]) (hab : a ≠ b)
    (ha : s.kindAt a = .ram) (hb : s.kindAt b = .ram) : u.peek a = x ∧ u.peek b = y := by
  obtain ⟨hpeek, -, -⟩ := h
  constructor
  · simp [hpeek, ha, hab.symm]
  · simp [hpeek, hb]

/-- A pop after a push to RAM gives the word pushed, whatever pc has become. -/
theorem pop16_push16_withPc (p : Word) (h1 : s.kindAt (s.sp - 1) = .ram) (h2 : s.kindAt (s.sp - 2) = .ram) :
    State.pop16 { s.push16 v with pc := p } = (v, { s.push16 v with pc := p, sp := s.sp }) := by
  obtain ⟨hsp, hstored, -, -, -, -, hplat, -⟩ := push16_withPc_frame s v p
  generalize hu : ({ s.push16 v with pc := p } : State) = u at *
  have hnext : u.sp + 1 = s.sp - 1 := by rw [hsp]; bv_omega
  obtain ⟨hhi, hlo⟩ := hstored.peek_pair (by bv_omega) h1 h2
  have hpop := pop16_ram (s := u) (by rw [hsp, kindAt_congr hplat, h2]) (by rw [hnext, kindAt_congr hplat, h1])
  rw [hpop, hnext, hsp, hhi, hlo, joinBytes_hiByte_loByte, BitVec.sub_add_cancel, ← hu]

theorem ofByte_toByte (f : Flags) : Flags.ofByte f.toByte = f := by
  obtain ⟨z, s, p, cy, ac⟩ := f
  revert z s p cy ac
  decide

/-- Loading a pair with the value it stores changes nothing. -/
theorem setStackPair_stackPair (s : State) (rp : StackPair) : s.setStackPair rp (s.stackPair rp) = s := by
  cases rp <;> simp [State.setStackPair, State.stackPair, State.hl, ofByte_toByte]

end StackInRam

/-- PUSH and POP of one pair on a stack in RAM: pc and the two bytes stored apart, nothing differs. -/
theorem execAll_push_pop (rp : StackPair) {s : State} (h1 : s.kindAt (s.sp - 1) = .ram)
    (h2 : s.kindAt (s.sp - 2) = .ram) :
    execAll [.pushOf rp, .popOf rp] s = .next { s.push16 (s.stackPair rp) with pc := s.pc + 2, sp := s.sp } := by
  have hpush : exec (.pushOf rp) s = .next { s.push16 (s.stackPair rp) with pc := s.pc + 1 } := by
    rw [exec_pushOf, done, push16_pc]
  have hpair : State.stackPair { s.push16 (s.stackPair rp) with pc := s.pc + 1, sp := s.sp } rp = s.stackPair rp := by
    cases rp <;> simp [State.stackPair, State.hl]
  have hload := setStackPair_stackPair { s.push16 (s.stackPair rp) with pc := s.pc + 1, sp := s.sp } rp
  rw [hpair] at hload
  have hnext : s.pc + 1 + 1 = s.pc + 2 := BitVec.add_assoc _ _ _
  refine execAll_pair hpush ?_
  simp only [exec_popOf, popInto, pop16_push16_withPc _ h1 h2, hload, done, hnext]

/-- CALL and RET on a stack in RAM: pc and the two bytes stored apart, nothing differs. -/
theorem execAll_call_ret (addr : Word) {s : State} (h1 : s.kindAt (s.sp - 1) = .ram) (h2 : s.kindAt (s.sp - 2) = .ram) :
    execAll [.call addr, .ret] s = .next { s.push16 (s.pc + 3) with pc := s.pc + 3, sp := s.sp } := by
  refine execAll_pair (t := { s.push16 (s.pc + 3) with pc := addr }) rfl ?_
  show returnIf true _ = _
  simp only [returnIf, State.returnFromStack, pop16_push16_withPc addr h1 h2, if_true]

/-- Settles O59: both leave the registers, the flags and SP as before the push. -/
theorem stackRoundTrip : Obligations.StackRoundTrip := by
  unfold Obligations.StackRoundTrip
  intro s h1 h2
  have hregs (v p : Word) : SameRegs [] s { s.push16 v with pc := p, sp := s.sp } :=
    ((sameRegs_withSp _ s.sp).of_reg (push16_reg s v)).withPc p
  exact ⟨fun rp => ⟨_, execAll_push_pop rp h1 h2, hregs _ _, push16_flags s _, rfl, rfl⟩,
    fun addr => ⟨_, execAll_call_ret addr h1 h2, hregs _ _, push16_flags s _, rfl, rfl⟩⟩

section Turning

/-- A function of a value of `n` bits moves every bit one place up, the highest to place 0. -/
def TurnsUp {β : Type} (n : Nat) (bit : β → Nat → Bool) (r : β → β) : Prop :=
  ∀ v, ∀ k < n, bit (r v) ((k + 1) % n) = bit v k

/-- A function of a value of `n` bits moves every bit one place down, the lowest to the highest place. -/
def TurnsDown {β : Type} (n : Nat) (bit : β → Nat → Bool) (r : β → β) : Prop :=
  ∀ v, ∀ k < n, bit (r v) k = bit v ((k + 1) % n)

variable {β : Type} {n : Nat} {bit : β → Nat → Bool} {r : β → β}

theorem TurnsUp.iterate (h : TurnsUp n bit r) (j : Nat) (v : β) {k : Nat} (hk : k < n) :
    bit (r^[j] v) ((k + j) % n) = bit v k := by
  induction j with
  | zero => rw [Function.iterate_zero, id, Nat.add_zero, Nat.mod_eq_of_lt hk]
  | succ j ih =>
    have hstep := h (r^[j] v) ((k + j) % n) (Nat.mod_lt _ (by omega))
    rw [Nat.mod_add_mod, Nat.add_assoc] at hstep
    rw [Function.iterate_succ_apply', hstep, ih]

theorem TurnsDown.iterate (h : TurnsDown n bit r) (j : Nat) (v : β) {k : Nat} (hk : k < n) :
    bit (r^[j] v) k = bit v ((k + j) % n) := by
  induction j generalizing k with
  | zero => rw [Function.iterate_zero, id, Nat.add_zero, Nat.mod_eq_of_lt hk]
  | succ j ih =>
    rw [Function.iterate_succ_apply', h _ _ hk, ih (Nat.mod_lt _ (by omega)), Nat.mod_add_mod, Nat.add_assoc,
      Nat.add_comm 1]

/-- After as many turns as there are bits, every bit is where it was. -/
theorem TurnsUp.full (h : TurnsUp n bit r) (v : β) {k : Nat} (hk : k < n) : bit (r^[n] v) k = bit v k := by
  have hn := h.iterate n v hk
  rwa [Nat.add_mod_right, Nat.mod_eq_of_lt hk] at hn

theorem TurnsDown.full (h : TurnsDown n bit r) (v : β) {k : Nat} (hk : k < n) : bit (r^[n] v) k = bit v k := by
  rw [h.iterate n v hk, Nat.add_mod_right, Nat.mod_eq_of_lt hk]

/-- The bits of A, and CY above them. -/
def bitAC (v : Byte × Bool) (k : Nat) : Bool := if k = 8 then v.2 else v.1.getLsbD k

/-- The bits of A. -/
def bitA (v : Byte × Bool) (k : Nat) : Bool := v.1.getLsbD k

theorem eq_of_bitA {v w : Byte × Bool} (h : ∀ k < 8, bitA v k = bitA w k) : v.1 = w.1 := BitVec.eq_of_getLsbD_eq h

theorem eq_of_bitAC {v w : Byte × Bool} (h : ∀ k < 9, bitAC v k = bitAC w k) : v = w := by
  refine Prod.ext (eq_of_bitA fun k hk => ?_) (h 8 (by omega))
  have hb := h k (by omega)
  rwa [bitAC, bitAC, if_neg (by omega), if_neg (by omega)] at hb

/-- A and CY after each rotate (42_logical.md R185 to R188). -/
def rlcAC (v : Byte × Bool) : Byte × Bool := (rotateLeft v.1 v.1[7], v.1[7])
def rrcAC (v : Byte × Bool) : Byte × Bool := (rotateRight v.1 v.1[0], v.1[0])
def ralAC (v : Byte × Bool) : Byte × Bool := (rotateLeft v.1 v.2, v.1[7])
def rarAC (v : Byte × Bool) : Byte × Bool := (rotateRight v.1 v.2, v.1[0])

theorem turnsUp_rlcAC : TurnsUp 8 bitA rlcAC := by
  intro v k hk
  by_cases h7 : k = 7
  · subst h7
    exact rotateLeft_getLsbD_zero _ _
  · rw [Nat.mod_eq_of_lt (by omega)]
    exact rotateLeft_getLsbD_succ _ _ (by omega)

theorem turnsDown_rrcAC : TurnsDown 8 bitA rrcAC := by
  intro v k hk
  by_cases h7 : k = 7
  · subst h7
    exact rotateRight_getLsbD_seven _ _
  · rw [Nat.mod_eq_of_lt (by omega)]
    exact rotateRight_getLsbD_of_lt _ _ (by omega)

theorem turnsUp_ralAC : TurnsUp 9 bitAC ralAC := by
  intro v k hk
  obtain rfl | rfl | hlt : k = 8 ∨ k = 7 ∨ k < 7 := by omega
  · exact rotateLeft_getLsbD_zero _ _
  · rfl
  · rw [Nat.mod_eq_of_lt (by omega), bitAC, bitAC, if_neg (by omega), if_neg (by omega)]
    exact rotateLeft_getLsbD_succ _ _ hlt

theorem turnsDown_rarAC : TurnsDown 9 bitAC rarAC := by
  intro v k hk
  obtain rfl | rfl | hlt : k = 8 ∨ k = 7 ∨ k < 7 := by omega
  · rfl
  · exact rotateRight_getLsbD_seven _ _
  · rw [Nat.mod_eq_of_lt (by omega), bitAC, bitAC, if_neg (by omega), if_neg (by omega)]
    exact rotateRight_getLsbD_of_lt _ _ hlt

/-- The state with another A and CY, and another pc. -/
def State.withAC (s : State) (v : Byte × Bool) (p : Word) : State :=
  { s with a := v.1, flags := { s.flags with cy := v.2 }, pc := p }

/-- An instruction of one byte that turns A and CY, executed `n` times. -/
theorem execAll_replicate {i : Instr} {r : Byte × Bool → Byte × Bool}
    (hi : ∀ s, exec i s = .next (s.withAC (r (s.a, s.flags.cy)) (s.pc + 1))) (n : Nat) (s : State) :
    execAll (List.replicate n i) s = .next (s.withAC (r^[n] (s.a, s.flags.cy)) (s.pc + BitVec.ofNat 16 n)) := by
  induction n generalizing s with
  | zero =>
    rw [Function.iterate_zero, id, BitVec.add_zero]
    rfl
  | succ n ih =>
    rw [List.replicate_succ, execAll, hi, Function.iterate_succ_apply, ← add_one_add_ofNat]
    exact ih _

end Turning

section ExchangeTwice

variable {s : State}

/-- XTHL on a stack in RAM. -/
theorem exec_xthl_ram (h0 : s.kindAt s.sp = .ram) (h1 : s.kindAt (s.sp + 1) = .ram) :
    ∃ t, exec .xthl s = .next t ∧ t.l = s.peek s.sp ∧ t.h = s.peek (s.sp + 1) ∧ t.peek s.sp = s.l ∧
      t.peek (s.sp + 1) = s.h ∧ (∀ x, x ≠ s.sp → x ≠ s.sp + 1 → t.peek x = s.peek x) ∧ t.outputs = s.outputs ∧
      SameRegs [.h, .l] s t ∧ t.sp = s.sp ∧ t.platform = s.platform := by
  obtain ⟨t, ht, hl, hh, -, hstored, hr, -, hsp, -, -, ⟨hplat, -, -⟩, -⟩ := exchangeStackTop s
  rw [readByte_ram h0] at hl hh
  rw [readByte_ram h1] at hh
  obtain ⟨hhigh, hlow⟩ := hstored.peek_pair (by bv_omega) h1 h0
  obtain ⟨-, hother, hout⟩ := hstored
  refine ⟨t, ht, hl, hh, hlow, hhigh, fun x hx hx' => hother x ?other, ?outputs, hr, hsp, hplat⟩
  case other => exact List.forall_mem_cons.mpr ⟨hx'.symm, List.forall_mem_cons.mpr ⟨hx.symm, nofun⟩⟩
  case outputs =>
    simp only [hout, List.filterMap_cons, List.filterMap_nil, h0, h1, reduceCtorEq, if_false, List.append_nil]

/-- A second XTHL takes back what the first one stored. -/
theorem execAll_xthl_xthl (h0 : s.kindAt s.sp = .ram) (h1 : s.kindAt (s.sp + 1) = .ram) :
    ∃ t, execAll [.xthl, .xthl] s = .next t ∧ SameRegs [] s t ∧ NothingStored s t := by
  obtain ⟨t, ht, htl, hth, htlow, hthigh, htother, htout, htr, htsp, htplat⟩ := exec_xthl_ram h0 h1
  have k0 : t.kindAt t.sp = .ram := by rw [htsp, kindAt_congr htplat, h0]
  have k1 : t.kindAt (t.sp + 1) = .ram := by rw [htsp, kindAt_congr htplat, h1]
  obtain ⟨u, hu, hul, huh, hulow, huhigh, huother, huout, hur, -, -⟩ := exec_xthl_ram k0 k1
  rw [htsp] at hul huh hulow huhigh huother
  refine ⟨u, execAll_pair ht hu, fun q _ => ?regs, fun x => ?peek, huout.trans htout⟩
  case regs =>
    cases q
    case h => exact huh.trans hthigh
    case l => exact hul.trans htlow
    all_goals exact (hur _ (by simp)).trans (htr _ (by simp))
  case peek =>
    by_cases hx : x = s.sp
    · rw [hx, hulow, htl]
    by_cases hx' : x = s.sp + 1
    · rw [hx', huhigh, hth]
    rw [huother x hx hx', htother x hx hx']

end ExchangeTwice

/-- Settles O60: eight turns of the bits of A, nine of A and CY together, and two exchanges, restore what they moved. -/
theorem repeatedExchanges : Obligations.RepeatedExchanges := by
  unfold Obligations.RepeatedExchanges
  have hcarry {r : Byte × Bool → Byte × Bool} (h : ∀ v, r^[9] v = v) (s : State) :
      s.withAC (r^[9] (s.a, s.flags.cy)) (s.pc + 9) = { s with pc := s.pc + 9 } := by
    rw [h]
    rfl
  refine ⟨fun s => ⟨_, execAll_replicate (r := rlcAC) (fun _ => rfl) 8 s, ?rlc⟩,
    fun s => ⟨_, execAll_replicate (r := rrcAC) (fun _ => rfl) 8 s, ?rrc⟩, fun s => ?ral, fun s => ?rar,
    fun s h0 h1 => execAll_xthl_xthl h0 h1⟩
  case rlc => exact eq_of_bitA fun k hk => turnsUp_rlcAC.full (s.a, s.flags.cy) hk
  case rrc => exact eq_of_bitA fun k hk => turnsDown_rrcAC.full (s.a, s.flags.cy) hk
  case ral =>
    rw [← hcarry (r := ralAC) fun v => eq_of_bitAC fun k hk => turnsUp_ralAC.full v hk]
    exact execAll_replicate (fun _ => rfl) 9 s
  case rar =>
    rw [← hcarry (r := rarAC) fun v => eq_of_bitAC fun k hk => turnsDown_rarAC.full v hk]
    exact execAll_replicate (fun _ => rfl) 9 s

end Sys2Proof.Machine
end
